-- ==== Sys2Proof/Word.lean ====
section
/-! DEFINITION. The word types of the block (10_state R20, R45; 20_memory R70). -/

namespace Sys2Proof

/-- A byte: an operand, a data value, a shadow byte. -/
abbrev Byte := BitVec 8

/-- The control word `CW` (10_state R21). -/
abbrev ControlWord := BitVec 16

/-- The data word `DW` (10_state R22). -/
abbrev DataWord := BitVec 32

/-- The delay word `DLW`, a count of chip-clock cycles (10_state R23). -/
abbrev DelayWord := BitVec 16

/-- A 3-bit value of (`CS2`, `CS1`, `RW`), bit 0 = `RW`: the select pattern and the phases of a control word (30_encoding R126, R129). -/
abbrev Select := BitVec 3

/-- A bus address, the six bits on `A[5:0]` (20_memory R70). -/
abbrev BusAddr := BitVec 6

end Sys2Proof
end

