-- ==== Sys2Proof/Syntax.lean ====
section
/-! DEFINITION. The operation set (30_encoding R120), the request record (R121) and the pseudo-operations (R140). -/

namespace Sys2Proof

/-- The operations of 30_encoding R120, one constructor per row of opcode_table.json, with the operands each call has. -/
inductive Instr where
  | write (address data : Byte)
  | read (address data : Byte)
  | pause (address data : Byte)
  | clearBus (address data : Byte)
  | cycledDispatch (address data : Byte) (cycles : DelayWord)
  | enable
  | disable
  | pauseToggle
  | hardReset
  | clearRegisters (chip : Byte)
  | initPins
  | setupBus
  | rebuildBus
  | computeClockDivider (rate : Nat)
  | detectExternalClock
  | route (address : Byte)
  | phaseSync
  | mute
  | unmute
  deriving DecidableEq, Repr

/-- The request record (30_encoding R121); a field an operation does not use is ignored. -/
structure Request where
  opsel : Byte
  command : Byte
  address : Byte
  data : Byte
  cycles : DelayWord
  chip : Byte
  rate : Nat
  deriving DecidableEq, Repr

/-- The inbound names of the core-facing interface (30_encoding R139, R140). -/
inductive Pseudo where
  | write (address data : Byte)
  | read (address : Byte)
  | pause
  | clearBus
  | timedWrite (address data : Byte) (cycles : DelayWord)
  | reset
  | clearChipRegisters (chip : Byte)
  | enable
  | disable
  deriving DecidableEq, Repr

end Sys2Proof
end

