-- ==== Sys2Proof/WellFormed.lean ====
section
/-! DEFINITION. Which operand values the contract of an operation allows (30_encoding R136, R137). An operation outside it
still decodes and is then refused by name (60_exceptions R275), so well-formedness restricts no step. -/

namespace Sys2Proof

/-- A routed logical address is 0x00..0x7F (43_router R212). -/
def routable (address : Byte) : Bool := decide (address.toNat < 128)

/-- The honoured sentinel of a timed write: 0xFF, 0xFF with at least one cycle (30_encoding R136). -/
def honouredSentinel (address data : Byte) (cycles : DelayWord) : Bool :=
  address == 0xFF#8 && data == 0xFF#8 && decide (1 ≤ cycles.toNat)

/-- The operand checks of 30_encoding R137, one per operation that has a check. -/
def Instr.wellFormed : Instr → Bool
  | .write address _ => routable address
  | .read address _ => routable address
  | .pause _ _ => true
  | .clearBus _ _ => true
  | .cycledDispatch address data cycles => routable address || honouredSentinel address data cycles
  | .enable => true
  | .disable => true
  | .pauseToggle => true
  | .hardReset => true
  | .clearRegisters chip => decide (chip.toNat < 4)
  | .initPins => true
  | .setupBus => true
  | .rebuildBus => true
  | .computeClockDivider rate => decide (1 ≤ rate)
  | .detectExternalClock => true
  | .route address => routable address
  | .phaseSync => true
  | .mute => true
  | .unmute => true

/-- A well-formed operation: every operand in the range its rule allows. -/
abbrev Instr.WellFormed (i : Instr) : Prop := i.wellFormed = true

end Sys2Proof
end

