-- ==== Sys2Proof/Decode.lean ====
section
/-! DEFINITION. Decoding a request (30_encoding R121, R122, R141), total on any record and on any bytes, and the encoder
written from the same table. The key `opsel ++ command` selects the operation. Where the operand fields lie in a request
written as one word is the model's choice (log 2): bits 15:0 key, 23:16 address, 31:24 data, 47:32 cycles, 55:48 chip, the
bits above 55 rate. -/

namespace Sys2Proof

/-- What a request selects: an operation, an ignored command (30_encoding R123, R125), or nothing (R121). -/
inductive Decoded where
  | op (i : Instr)
  | ignored
  | unknown
  deriving DecidableEq, Repr

/-- One row of the opcode table: a request with `key & mask = value` selects the operation `build` makes of it. -/
structure OpRow where
  mnemonic : String
  value : BitVec 16
  mask : BitVec 16
  build : Request → Instr

/-- The 16-bit key, `opsel` in bits 15:8 and the command byte in bits 7:0 (30_encoding R141). -/
def Request.key (r : Request) : BitVec 16 := r.opsel ++ r.command

/-- The opcode table in the order of opcode_table.json. -/
def opTable : List OpRow :=
  [ ⟨"WRITE", 0x0010#16, 0xFFFF#16, fun r => .write r.address r.data⟩,
    ⟨"READ", 0x0011#16, 0xFFFF#16, fun r => .read r.address r.data⟩,
    ⟨"PAUSE", 0x0012#16, 0xFFFF#16, fun r => .pause r.address r.data⟩,
    ⟨"CLEAR_BUS", 0x0013#16, 0xFFFF#16, fun r => .clearBus r.address r.data⟩,
    ⟨"CYCLED_DISPATCH", 0x0100#16, 0xFF00#16, fun r => .cycledDispatch r.address r.data r.cycles⟩,
    ⟨"ENABLE", 0x0200#16, 0xFF00#16, fun _ => .enable⟩,
    ⟨"DISABLE", 0x0300#16, 0xFF00#16, fun _ => .disable⟩,
    ⟨"PAUSE_TOGGLE", 0x0400#16, 0xFF00#16, fun _ => .pauseToggle⟩,
    ⟨"HARD_RESET", 0x0500#16, 0xFF00#16, fun _ => .hardReset⟩,
    ⟨"CLEAR_REGISTERS", 0x0600#16, 0xFF00#16, fun r => .clearRegisters r.chip⟩,
    ⟨"INIT_PINS", 0x0700#16, 0xFF00#16, fun _ => .initPins⟩,
    ⟨"SETUP_BUS", 0x0800#16, 0xFF00#16, fun _ => .setupBus⟩,
    ⟨"REBUILD_BUS", 0x0900#16, 0xFF00#16, fun _ => .rebuildBus⟩,
    ⟨"COMPUTE_CLOCK_DIVIDER", 0x0A00#16, 0xFF00#16, fun r => .computeClockDivider r.rate⟩,
    ⟨"DETECT_EXTERNAL_CLOCK", 0x0B00#16, 0xFF00#16, fun _ => .detectExternalClock⟩,
    ⟨"ROUTE", 0x0C00#16, 0xFF00#16, fun r => .route r.address⟩,
    ⟨"PHASE_SYNC", 0x0D00#16, 0xFF00#16, fun _ => .phaseSync⟩,
    ⟨"MUTE", 0x0E00#16, 0xFF00#16, fun _ => .mute⟩,
    ⟨"UNMUTE", 0x0F00#16, 0xFF00#16, fun _ => .unmute⟩ ]

/-- A request selects a row when its key agrees with the row's value under the row's mask (30_encoding R141). -/
def OpRow.selects (row : OpRow) (key : BitVec 16) : Bool := key &&& row.mask == row.value

/-- Decoding a request record. A key that matches no row is an ignored command when `opsel = 0x00`, else unknown (R141). -/
def decode (r : Request) : Decoded :=
  match opTable.find? (fun row => row.selects r.key) with
  | some row => .op (row.build r)
  | none => if r.opsel = 0x00#8 then .ignored else .unknown

/-- The request record written as one word. -/
def Request.ofWord (w : Nat) : Request where
  opsel := BitVec.ofNat 8 (w / 2 ^ 8)
  command := BitVec.ofNat 8 w
  address := BitVec.ofNat 8 (w / 2 ^ 16)
  data := BitVec.ofNat 8 (w / 2 ^ 24)
  cycles := BitVec.ofNat 16 (w / 2 ^ 32)
  chip := BitVec.ofNat 8 (w / 2 ^ 48)
  rate := w / 2 ^ 56

/-- The word of a request record. -/
def Request.toWord (r : Request) : Nat :=
  r.command.toNat + 2 ^ 8 * r.opsel.toNat + 2 ^ 16 * r.address.toNat + 2 ^ 24 * r.data.toNat
    + 2 ^ 32 * r.cycles.toNat + 2 ^ 48 * r.chip.toNat + 2 ^ 56 * r.rate

/-- Bytes read as one word, the first byte least significant (log 2). -/
def wordOfBytes : List Byte → Nat
  | [] => 0
  | b :: bs => b.toNat + 256 * wordOfBytes bs

/-- Decoding any bytes: bytes that are not there read as zero. -/
def decodeBytes (bytes : List Byte) : Decoded := decode (Request.ofWord (wordOfBytes bytes))

/-- The lowest `n` bytes of a word, the least significant first. -/
def bytesOfWord : Nat → Nat → List Byte
  | 0, _ => []
  | n + 1, w => BitVec.ofNat 8 w :: bytesOfWord n (w / 256)

/-- The instruction the decoder reads from an instruction whose low `nbits` bits are those of `w`, every bit above zero. -/
def decodeTableWord (nbits w : Nat) : Option Instr :=
  match decodeBytes (bytesOfWord (nbits / 8) w) with
  | .op i => some i
  | .ignored => none
  | .unknown => none

/-- A request whose operand fields are all zero. -/
def Request.bare (opsel command : Byte) : Request := ⟨opsel, command, 0, 0, 0, 0, 0⟩

/-- The request of an operation: opsel codes of 30_encoding R121, command bytes of R124, unused fields zero. -/
def encode : Instr → Request
  | .write address data => { Request.bare 0x00 0x10 with address := address, data := data }
  | .read address data => { Request.bare 0x00 0x11 with address := address, data := data }
  | .pause address data => { Request.bare 0x00 0x12 with address := address, data := data }
  | .clearBus address data => { Request.bare 0x00 0x13 with address := address, data := data }
  | .cycledDispatch address data cycles =>
    { Request.bare 0x01 0x00 with address := address, data := data, cycles := cycles }
  | .enable => Request.bare 0x02 0x00
  | .disable => Request.bare 0x03 0x00
  | .pauseToggle => Request.bare 0x04 0x00
  | .hardReset => Request.bare 0x05 0x00
  | .clearRegisters chip => { Request.bare 0x06 0x00 with chip := chip }
  | .initPins => Request.bare 0x07 0x00
  | .setupBus => Request.bare 0x08 0x00
  | .rebuildBus => Request.bare 0x09 0x00
  | .computeClockDivider rate => { Request.bare 0x0A 0x00 with rate := rate }
  | .detectExternalClock => Request.bare 0x0B 0x00
  | .route address => { Request.bare 0x0C 0x00 with address := address }
  | .phaseSync => Request.bare 0x0D 0x00
  | .mute => Request.bare 0x0E 0x00
  | .unmute => Request.bare 0x0F 0x00

/-- The word of an operation's request. -/
def encodeWord (i : Instr) : Nat := (encode i).toWord

/-- Each inbound name of the core-facing interface stands for one operation (30_encoding R140). -/
def Pseudo.expand : Pseudo → Instr
  | .write address data => .write address data
  | .read address => .read address 0x00
  | .pause => .pause 0x00 0x00
  | .clearBus => .clearBus 0x00 0x00
  | .timedWrite address data cycles => .cycledDispatch address data cycles
  | .reset => .hardReset
  | .clearChipRegisters chip => .clearRegisters chip
  | .enable => .enable
  | .disable => .disable

end Sys2Proof
end

