-- ==== Sys2Proof/Config.lean ====
section
/-! DEFINITION. Parameters of the model (00_scope R6): the vocabulary of the event trace, the platform and configuration
records, and the values nobody in the spec fixes. A constant without a body below is a free value: nothing in Lean can
evaluate it, so a proved statement holds whatever it is. -/

namespace Sys2Proof

/-- The four sequencers (10_state R31). -/
inductive Sequencer where
  | ctrl | data | clk | dly
  deriving DecidableEq, Repr

/-- Whether a write transaction waited for a clock edge (20_memory R76, R80). -/
inductive Gating where
  | gated | ungated
  deriving DecidableEq, Repr

/-- What ran out at bring-up (60_exceptions R273). -/
inductive ResourceKind where
  | sequencer | channel
  deriving DecidableEq, Repr

/-- The events of the trace, one constructor per row of the table of 20_memory R76. -/
inductive Event where
  | busWrite (sel : Select) (a6 : BusAddr) (d : Byte) (g : Gating)
  | busRead (sel : Select) (a6 : BusAddr) (v : Byte)
  | busCtl (act rel : Select)
  | busData (dirmask val : BitVec 16)
  | delay (n : DelayWord)
  | resAssert
  | resDeassert
  | resHold (microseconds : Rat)
  | csRelease
  | pinsInit
  | clockDetect (external : Bool)
  | busBuilt (divBus divClk : Rat)
  | busTornDown
  | phaseSync
  | fatal (kind : ResourceKind)
  deriving DecidableEq, Repr

/-- One entry of the Region Mapping table (10_state R40, 43_router R211). -/
structure Region where
  mask : BitVec 8
  pattern : Select
  deriving DecidableEq, Repr

/-- The configuration registers, written by the configuration collaborator only (10_state R36 to R40). -/
structure Conf where
  clockRate : Nat
  numChips : Nat
  chipReal : Vector Bool 4
  dualAsOne : Bool
  ledEnable : Bool
  region : Vector Region 4
  deriving DecidableEq, Repr

/-- `DIV_QUANT`, how the platform rounds a divider (00_scope R6, 93 U18): not at all, or as platform number `n` does. -/
inductive DivQuant where
  | identity
  | rounding (n : Nat)
  deriving DecidableEq, Repr

/-- The platform parameters and the spec's switch (00_scope R6), fixed for one instance of the hardware. -/
structure Platform where
  /-- `SYS_CLK_HZ` -/
  sysClkHz : Rat
  /-- `REG_TABLE`, offsets 0x00..0x1F -/
  regTable : List (BitVec 5)
  /-- `RESET_HOLD_US` -/
  resetHoldUs : Rat
  /-- `DIV_QUANT` -/
  divQuant : DivQuant
  /-- `ATOMIC_RESTART` -/
  atomicRestart : Bool
  /-- `CYC_SHADOW_ON_DISABLED` -/
  cycShadowOnDisabled : Bool
  deriving DecidableEq, Repr

/-- What the environment answers (00_scope R6, 10_state R48). The lists hold the coming answers, the next first. -/
structure Env where
  /-- `PhiAlive`: an external `PHI` ever shows another edge -/
  phiAlive : Bool
  /-- `FREE_SEQ`: what the next `setupBus` finds free -/
  freeSeq : Nat
  /-- `FREE_CH`: what the next `setupBus` finds free -/
  freeCh : Nat
  /-- coming answers of `ChipSample`; when there is none the oracle `Config.chipSample` answers -/
  chipAnswers : List Byte
  /-- coming samples of `PHI` (`ClkSamples`); a missing one is `Config.clkSample` -/
  clkSamples : List Bool
  deriving DecidableEq, Repr

/-- Free value: the oracle `ChipSample(trace, sel, a6)` (20_memory R84, log 5). -/
opaque Config.chipSample : List Event → Select → BusAddr → Byte

/-- Free value: sample `k` of detection `n` (45_clock R244, log 6). -/
opaque Config.clkSample : Nat → Nat → Bool

/-- Free value: at power-on, whether an external `PHI` ever shows another edge (20_memory R87, log 7). -/
opaque Config.phiAlive : Bool

/-- Free value: `RR[23:0]` after capture `n` (20_memory R85, 93 U7, log 14). -/
opaque Config.rrLow : Nat → BitVec 24

/-- Free value: the slot that build `n` gives a sequencer (40_bringup R161, 93 U21, log 8). -/
opaque Config.freeSlot : Nat → Sequencer → Nat

/-- Free value: where build `n` loads a sequencer's program (10_state R26, 93 U21, log 8). -/
opaque Config.loadOffset : Nat → Sequencer → Nat

/-- Free value: numerator of `SYS_CLK_HZ`, a positive rational (00_scope R6, log 9). -/
opaque Config.sysClkNum : PNat

/-- Free value: denominator of `SYS_CLK_HZ` (00_scope R6, log 9). -/
opaque Config.sysClkDen : PNat

/-- Free value: by how many (numerator) microseconds `RESET_HOLD_US` exceeds 10 (00_scope R6, log 9). -/
opaque Config.holdExtraNum : Nat

/-- Free value: denominator of that excess (00_scope R6, log 9). -/
opaque Config.holdExtraDen : PNat

/-- Free value: the function by which platform `n` rounds a divider (00_scope R6, 93 U18, log 24). -/
opaque Config.divRounding : Nat → Rat → Rat

/-- Free value: `ATOMIC_RESTART` (00_scope R6, log 9). -/
opaque Config.atomicRestart : Bool

end Sys2Proof
end

