-- ==== Sys2Proof/Machine/Params.lean ====
section
/-! DEFINITION. The fixed numbers of 00_scope R6, the spec's defaults, and the configuration the machine has at power-on. -/

namespace Sys2Proof.Machine

/-- `DETECT_ITER` (00_scope R6). -/
def detectIter : Nat := 20

/-- `VOL_OFFSET`, the offset of a chip's volume register (00_scope R6, 44_lifecycle R220). -/
def volOffset : BitVec 5 := 0x18#5

/-- `VOL_DEFAULT_NIBBLE` (00_scope R6). -/
def volDefaultNibble : BitVec 4 := 0xE#4

/-- `DIV_QUANT(d)`: the identity leaves the exact divider, any other platform rounds it in a way nobody specifies (00_scope R6,
45_clock R240, 92 D28, 93 U18; log 24). -/
def divQuant (q : DivQuant) (d : Rat) : Rat :=
  match q with
  | .identity => d
  | .rounding n => Config.divRounding n d

/-- The spec's default `REG_TABLE`, offsets 0x00..0x1C (44_lifecycle R228). -/
def defaultRegTable : List (BitVec 5) := (List.range 29).map (BitVec.ofNat 5)

/-- `SYS_CLK_HZ`, positive and otherwise free (00_scope R6, log 9). -/
def freeSysClkHz : Rat := (Config.sysClkNum.val : Rat) / (Config.sysClkDen.val : Rat)

/-- `RESET_HOLD_US`, at least 10 and otherwise free (00_scope R6, log 9). -/
def freeResetHoldUs : Rat := 10 + (Config.holdExtraNum : Rat) / (Config.holdExtraDen.val : Rat)

/-- The platform of a machine at power-on: free where the spec says OPEN, else the spec's default (log 9). -/
def platformAtReset : Platform where
  sysClkHz := freeSysClkHz
  regTable := defaultRegTable
  resetHoldUs := freeResetHoldUs
  divQuant := .identity
  atomicRestart := Config.atomicRestart
  cycShadowOnDisabled := true

/-- Test table T0 of 95_test_vectors: one chip in each socket, regions 2 and 3 disabled. -/
def regionTableT0 : Vector Region 4 :=
  #v[⟨0x1F#8, 0b100#3⟩, ⟨0x1F#8, 0b010#3⟩, ⟨0x1F#8, 0b110#3⟩, ⟨0x1F#8, 0b111#3⟩]

/-- The configuration the collaborator has loaded at power-on. DESIGN CHOICE: the values of the standard start state `S_BU`
of 95_test_vectors (10_state R49 leaves them open; log 10). -/
def confAtReset : Conf where
  clockRate := 1000000
  numChips := 2
  chipReal := #v[false, false, false, false]
  dualAsOne := false
  ledEnable := false
  region := regionTableT0

/-- The environment's answers at power-on. DESIGN CHOICE for the two counts (log 8); no answer is queued, so the free
oracle answers (log 5, log 6), and `PhiAlive` is free (log 7). -/
def envAtReset : Env where
  phiAlive := Config.phiAlive
  freeSeq := 4
  freeCh := 4
  chipAnswers := []
  clkSamples := []

end Sys2Proof.Machine
end

