-- ==== Sys2Proof/Machine/State.lean ====
section
/-! DEFINITION. The state of one Bus Controller instance (10_state), as plain data, and its value at power-on (R49). -/

namespace Sys2Proof.Machine

/-- The dispatcher phase (10_state R25). -/
inductive Phase where
  | idle | waitCtrl | waitRx | waitDly | halted
  deriving DecidableEq, Repr

/-- The channels a dispatcher can wait on (20_memory R79). -/
inductive WaitPoint where
  | ctrl | rx | dly
  deriving DecidableEq, Repr

/-- The working cells (10_state R20 to R24). `RR` is kept as its two fields, bits 31:24 and bits 23:0 (30_encoding R134);
`Cells.rr` is the whole cell. -/
structure Cells where
  cw : ControlWord
  dw : DataWord
  dlw : DelayWord
  rrTop : Byte
  rrLow : BitVec 24
  deriving DecidableEq, Repr

/-- What the state holds for one sequencer (10_state R31). -/
structure SequencerState where
  claimed : Bool
  loaded : Bool
  running : Bool
  slot : Nat
  offset : Nat
  div : Rat
  deriving DecidableEq, Repr

/-- The sequencer set (10_state R31). -/
structure SequencerSet where
  ctrl : SequencerState
  data : SequencerState
  clk : SequencerState
  dly : SequencerState
  deriving DecidableEq, Repr

/-- What the state holds for one transfer channel (10_state R33). -/
structure Channel where
  claimed : Bool
  busy : Bool
  deriving DecidableEq, Repr

/-- A gate latch (10_state R32). -/
inductive Gate where
  | opened | armed
  deriving DecidableEq, Repr

/-- Channels, gates and work in flight (10_state R32 to R34). -/
structure Link where
  txCtrl : Channel
  txData : Channel
  txDly : Channel
  rxData : Channel
  gateCtrl : Gate
  gateData : Gate
  pendCtrl : Option ControlWord
  pendData : Option DataWord
  pendDly : Option DelayWord
  rxSample : Option Byte
  deriving DecidableEq, Repr

/-- The chip reset line, whose polarity the spec does not know (10_state R44). -/
inductive ResLine where
  | asserted | deasserted
  deriving DecidableEq, Repr

/-- The pins (10_state R44, R45). A level is `true` for 1. `dir` and `out` have bits 7:0 for `D` and 13:8 for `A`. -/
structure Pins where
  res : ResLine
  rw : Bool
  cs1 : Bool
  cs2 : Bool
  /-- `RES`, `CS1`, `CS2` and `RW` have been made outputs (40_bringup R160) -/
  ctlOutputs : Bool
  dir : BitVec 14
  out : BitVec 14
  deriving DecidableEq, Repr

/-- What `route` answers (43_router R210). -/
inductive Routed where
  | disabled
  | entry (masked : BusAddr) (pattern : Select)
  deriving DecidableEq, Repr

/-- The value an operation returns (30_encoding R120, column result). -/
inductive Result where
  | none
  | byte (v : Byte)
  | routed (r : Routed)
  | dividers (divBus divClk : Rat)
  | clock (external : Bool)
  deriving DecidableEq, Repr

/-- The primitive operations an operation consists of (10_state R25: "a fixed finite sequence of primitive operations"). -/
inductive Task where
  /-- `dispatch(0x10, address, data)` up to its triggers (41_dispatcher R181) -/
  | launchWrite (address data : Byte)
  /-- `dispatch(0x12, 0, 0)` up to its trigger (41_dispatcher R183) -/
  | launchPause
  /-- one turn of the loop of `mute` up to the triggers of its write (44_lifecycle R222) -/
  | launchMute (chip : Nat)
  /-- one turn of the loop of `unmute` up to the triggers of its write (44_lifecycle R223) -/
  | launchUnmute (chip : Nat)
  /-- `wait(c)` (20_memory R79) -/
  | await (w : WaitPoint)
  /-- the end of READ: the top byte of `RR` goes to shadow memory and is returned (41_dispatcher R182) -/
  | latchRead (address : Byte)
  /-- the direct pin write of `disable` (44_lifecycle R225) -/
  | releaseSelects
  /-- `RES <- asserted; emit ResAssert` (44_lifecycle R225) -/
  | assertRes
  /-- `paused <- false` (44_lifecycle R224) -/
  | clearPaused
  /-- `paused <- not paused` (44_lifecycle R226) -/
  | flipPaused
  /-- `return v` (00_scope R13) -/
  | answer (r : Result)
  deriving DecidableEq, Repr

/-- The steps of the sequencer and channel agents (20_memory R80 to R86). -/
inductive AgentStep where
  | jointWrite | jointRead | ctlOnly | dataOnly | receive | delay
  deriving DecidableEq, Repr

/-- What happens next at the block's boundary, or which agent moves next (00_scope R8, log 1, log 2). -/
inductive Stimulus where
  /-- the caller issues a request -/
  | request (r : Request)
  /-- the configuration collaborator loads the configuration registers (10_state R36 to R40) -/
  | configure (c : Conf)
  /-- the environment's answers are from now on these (00_scope R6); a dead `PHI` stays dead (log 7) -/
  | world (e : Env)
  /-- an autonomous agent takes this step, if it is enabled -/
  | agent (a : AgentStep)
  deriving DecidableEq, Repr

/-- Why a step stops as a fault. -/
inductive Fault where
  /-- Raised by the hold of 20_memory R77 when a channel stays busy and no agent has a step that clears it. The spec gives
  the hold no phase, and says that the steps that lift it need no outside event; no run reaches such a state (log 15). Safe. -/
  | holdNeverLifts
  deriving DecidableEq, Repr

/-- Why a call is refused: the list of 60_exceptions R275, the collaborator's duty of 20_memory R90, and the name of an
instruction without a meaning. -/
inductive Refusal where
  /-- Raised by an arm of `exec` for an instruction that has no meaning yet; no arm does. Safe. -/
  | notModelled (mnemonic : String)
  /-- Code 16, raised by every operation that changes state after a fatal bring-up failure (R273). Safe. -/
  | halted
  /-- Code 17, raised by the operations that use the bus before `setupBus` (40_bringup R165). Safe. -/
  | busNotBuilt
  /-- Code 18, raised by `setupBus` and `detectExternalClock` on a built bus (40_bringup R164, 45_clock R245). Safe. -/
  | alreadyBuilt
  /-- Code 19, raised for a logical address of 0x80 and above (43_router R212). Safe. -/
  | addressOutOfRange
  /-- Code 20, raised by `clearRegisters` for a chip index of 4 and above (44_lifecycle R228). Safe. -/
  | chipOutOfRange
  /-- Code 21, raised for a clock rate of zero (45_clock R241). Safe. -/
  | zeroRate
  /-- Code 22, raised for a request with opsel 0x10..0xFF (30_encoding R121). Safe. -/
  | unknownOperation
  /-- Code 23, raised for an operation while the dispatcher is in a wait (20_memory R90). Safe. -/
  | concurrentInvocation
  /-- Code 24, raised by routing into a region with pattern 0b001, 0b011 or 0b101 (43_router R216). Safe. -/
  | reservedPattern
  /-- Raised when the configuration collaborator loads registers while `phase` is not `IDLE`, which 20_memory R90 rules out
  (log 20). Safe. -/
  | configurationBusy
  deriving DecidableEq, Repr

/-- The state of the block (10_state), with the parameters the model keeps as data and the model's own fields last. -/
structure State where
  cells : Cells
  /-- shadow memory (10_state R42), in the canonical form of `Memory.wf` -/
  shadow : List Host.Cell
  volCache : Vector Byte 4
  phase : Phase
  paused : Bool
  busBuilt : Bool
  halted : Bool
  clkExternal : Bool
  phaseAligned : Bool
  divBus : Rat
  divClk : Rat
  seqs : SequencerSet
  link : Link
  pins : Pins
  conf : Conf
  /-- the event trace, oldest first (20_memory R76) -/
  trace : List Event
  plat : Platform
  env : Env
  /-- the value the last completed operation returned (log 3) -/
  result : Result
  /-- what a blocked operation still has to do (log 7) -/
  todo : List Task
  /-- requests and moves still to come, the next first (log 2) -/
  inbox : List Stimulus
  /-- how many free values have been taken (log 14) -/
  draws : Nat
  deriving DecidableEq, Repr

/-- A sequencer at power-on (10_state R49; slot, offset and divider DESIGN CHOICE, log 13). -/
def SequencerState.atReset : SequencerState := ⟨false, false, false, 0, 0, 0⟩

/-- A channel at power-on (10_state R49). -/
def Channel.atReset : Channel := ⟨false, false⟩

/-- Channels, gates and work in flight at power-on (10_state R49). -/
def Link.atReset : Link where
  txCtrl := Channel.atReset
  txData := Channel.atReset
  txDly := Channel.atReset
  rxData := Channel.atReset
  gateCtrl := .opened
  gateData := .opened
  pendCtrl := none
  pendData := none
  pendDly := none
  rxSample := none

/-- The pins at power-on. DESIGN CHOICE: the idle control state of 10_state R44, `RES` deasserted (log 12). -/
def Pins.atReset : Pins := ⟨.deasserted, false, true, true, false, 0, 0⟩

/-- The machine at power-on (10_state R49). Cells, shadow memory and volume cache hold zero (DESIGN CHOICE, log 11). -/
def State.reset : State where
  cells := ⟨0, 0, 0, 0, 0⟩
  shadow := []
  volCache := #v[0, 0, 0, 0]
  phase := .idle
  paused := false
  busBuilt := false
  halted := false
  clkExternal := false
  phaseAligned := false
  divBus := 0
  divClk := 0
  seqs := ⟨SequencerState.atReset, SequencerState.atReset, SequencerState.atReset, SequencerState.atReset⟩
  link := Link.atReset
  pins := Pins.atReset
  conf := confAtReset
  trace := []
  plat := platformAtReset
  env := envAtReset
  result := .none
  todo := []
  inbox := []
  draws := 0

end Sys2Proof.Machine
end

