-- ==== Sys2Proof/Machine/Operands.lean ====
section
/-! DEFINITION. Operand decoding, routing and the words: 43_router R210 to R216, 30_encoding R126 to R135,
44_lifecycle R220, 45_clock R240. -/

namespace Sys2Proof.Machine

/-! ### Addresses -/

/-- The region of a logical address, `address[6:5]` (43_router R212). -/
def regionIndex (address : Byte) : Fin 4 := (address.extractLsb' 5 2).toFin

/-- The register offset inside the region, `address[4:0]` (30_encoding R135). -/
def registerOffset (address : Byte) : BitVec 5 := address.extractLsb' 0 5

/-- `(address & mask)[5:0]` (43_router R213). -/
def maskAddress (mask address : BitVec 8) : BusAddr := (address &&& mask).extractLsb' 0 6

/-- The logical address of a register of a chip, `0x20 * chip + offset` (44_lifecycle R220). -/
def registerAddress (chip : Nat) (offset : BitVec 5) : Byte := BitVec.ofNat 8 (0x20 * chip + offset.toNat)

/-- `vol(i)`, a chip's volume register (44_lifecycle R220). -/
def volumeAddress (chip : Nat) : Byte := registerAddress chip volOffset

/-- The patterns that disable a region (43_router R214). -/
def patternDisabled (p : Select) : Bool := p == 0b110#3 || p == 0b111#3

/-- The patterns with the read bit set (43_router R216). -/
def patternReserved (p : Select) : Bool := p.getLsbD 0 && !patternDisabled p

/-- `route(address)` (43_router R210). -/
def routeIn (table : Vector Region 4) (address : Byte) : Except Refusal Routed :=
  if routable address then
    let r := table[regionIndex address]
    if patternDisabled r.pattern then .ok .disabled
    else if patternReserved r.pattern then .error .reservedPattern
    else .ok (.entry (maskAddress r.mask address) r.pattern)
  else .error .addressOutOfRange

/-! ### The control word (30_encoding R126 to R129) -/

/-- `CW_BASE` -/
def cwBase : ControlWord := 0x0030#16
/-- `CW_BASE_CYCLED` -/
def cwBaseCycled : ControlWord := 0x0038#16
/-- `CW_PAUSE` -/
def cwPause : ControlWord := 0x0036#16
/-- `CW_READ_BIT` -/
def cwReadBit : ControlWord := 0x0001#16

/-- `base | zext_16(pattern)` (43_router R215). -/
def packControl (base : ControlWord) (pattern : Select) : ControlWord := base ||| pattern.setWidth 16

/-- The active phase, bits 2:0. -/
def cwAct (cw : ControlWord) : Select := cw.extractLsb' 0 3

/-- The release phase, bits 5:3. -/
def cwRel (cw : ControlWord) : Select := cw.extractLsb' 3 3

/-- The direction bit `RW_act`. -/
def cwIsRead (cw : ControlWord) : Bool := cw.getLsbD 0

/-- `chips(sel)` holds socket 1 (20_memory R70). -/
def selectsSocket1 (sel : Select) : Bool := !sel.getLsbD 1

/-- `chips(sel)` holds socket 2 (20_memory R70). -/
def selectsSocket2 (sel : Select) : Bool := !sel.getLsbD 2

/-! ### The data word (30_encoding R130 to R132) -/

/-- `DIR_WRITE` -/
def dirWrite : BitVec 16 := 0xFFFF#16
/-- `DIR_READ` -/
def dirRead : BitVec 16 := 0xFF00#16
/-- `DIR_CLEAR` -/
def dirClear : BitVec 16 := 0x0000#16
/-- `DW_CLEAR` -/
def dwClear : DataWord := 0x00000000#32

/-- `(zext_32(dirmask) << 16) | (zext_32(masked) << 8) | zext_32(data)` (30_encoding R132). -/
def packData (dirmask : BitVec 16) (masked : BusAddr) (data : Byte) : DataWord :=
  (dirmask.setWidth 32 <<< 16) ||| (masked.setWidth 32 <<< 8) ||| data.setWidth 32

/-- The `data` field, bits 7:0. -/
def dwData (dw : DataWord) : Byte := dw.extractLsb' 0 8
/-- The `addr` field, bits 13:8. -/
def dwAddr (dw : DataWord) : BusAddr := dw.extractLsb' 8 6
/-- The pin values, bits 15:0. -/
def dwValues (dw : DataWord) : BitVec 16 := dw.extractLsb' 0 16
/-- The direction mask, bits 31:16. -/
def dwDirMask (dw : DataWord) : BitVec 16 := dw.extractLsb' 16 16
/-- The values of the fourteen pins, bits 13:0. -/
def dwOut (dw : DataWord) : BitVec 14 := dw.extractLsb' 0 14
/-- The directions of the fourteen pins, bits 29:16. -/
def dwDir (dw : DataWord) : BitVec 14 := dw.extractLsb' 16 14

/-! ### The result cell and the volume byte -/

/-- The result cell `RR`, 32 bits: the sampled byte on top of 24 bits nobody specifies (30_encoding R134). -/
def Cells.rr (c : Cells) : BitVec 32 := c.rrTop ++ c.rrLow

/-- The muted volume byte, `v & 0xF0` (44_lifecycle R222). -/
def mutedByte (v : Byte) : Byte := v &&& 0xF0#8

/-- The restored volume byte: a zero low nibble is forced to `VOL_DEFAULT_NIBBLE` (44_lifecycle R223). -/
def unmutedByte (v : Byte) : Byte :=
  if v.extractLsb' 0 4 = 0#4 then (v &&& 0xF0#8) ||| volDefaultNibble.setWidth 8 else v

/-! ### Rates and tables -/

/-- The two dividers of a rate, rounded as the platform rounds them (45_clock R240). -/
def computeDividers (p : Platform) (rate : Nat) : Except Refusal (Rat × Rat) :=
  if rate = 0 then .error .zeroRate
  else .ok (divQuant p.divQuant (p.sysClkHz / ((rate : Rat) * 32) / 2), divQuant p.divQuant (p.sysClkHz / ((rate : Rat) * 2)))

/-- The entries of `REG_TABLE` that `clearRegisters` writes: all but the last 4 (44_lifecycle R228). -/
def clearableRegisters (p : Platform) : List (BitVec 5) := p.regTable.take (p.regTable.length - 4)

end Sys2Proof.Machine
end

