-- ==== Sys2Proof/Machine/Flags.lean ====
section
/-! DEFINITION. What is computed from the flags and status bits: the lifecycle label (10_state R28), the clock's edge and
direction (20_memory R87, 10_state R46), the final state (20_memory R92), the built and not-built set (46_resync R259), and
the codes of 60_exceptions R270 and R275. -/

namespace Sys2Proof.Machine

/-- The lifecycle label (10_state R28). -/
inductive Lifecycle where
  | disabled | enabled | paused
  deriving DecidableEq, Repr

/-- The lifecycle label is derived from `RES` and `paused`; no operation reads it (10_state R28). -/
def State.lifecycle (s : State) : Lifecycle :=
  if s.pins.res = .asserted then .disabled else if s.paused then .paused else .enabled

/-- `edge_available` (20_memory R87). -/
def State.edgeAvailable (s : State) : Bool :=
  (!s.clkExternal && s.seqs.clk.running) || (s.clkExternal && s.env.phiAlive)

/-- Whether the block drives `PHI` (10_state R46, 45_clock R246). -/
def State.phiIsOutput (s : State) : Bool := !s.clkExternal && s.seqs.clk.running

/-- Some channel is busy (20_memory R77). -/
def Link.anyBusy (l : Link) : Bool := l.txCtrl.busy || l.txData.busy || l.txDly.busy || l.rxData.busy

/-- Nothing is in flight: no channel busy, no word pending, no sample waiting (20_memory R92). -/
def Link.drained (l : Link) : Bool :=
  !l.anyBusy && l.pendCtrl.isNone && l.pendData.isNone && l.pendDly.isNone && l.rxSample.isNone

/-- A final state of a run (20_memory R92). -/
def State.isFinal (s : State) : Bool := decide (s.phase = .idle) && s.link.drained && !s.halted

/-- The dispatcher is in one of the three blocking waits (10_state R25). -/
def Phase.isWait : Phase → Bool
  | .waitCtrl | .waitRx | .waitDly => true
  | .idle | .halted => false

/-- Every sequencer claimed, loaded and running, every channel claimed (46_resync R259, "built"). -/
def State.fullyClaimed (s : State) : Bool :=
  let up (q : SequencerState) : Bool := q.claimed && q.loaded && q.running
  up s.seqs.ctrl && up s.seqs.data && up s.seqs.clk && up s.seqs.dly &&
    s.link.txCtrl.claimed && s.link.txData.claimed && s.link.txDly.claimed && s.link.rxData.claimed

/-- No sequencer claimed, loaded or running, no channel claimed (46_resync R259, "not built"). -/
def State.fullyReleased (s : State) : Bool :=
  let down (q : SequencerState) : Bool := !q.claimed && !q.loaded && !q.running
  down s.seqs.ctrl && down s.seqs.data && down s.seqs.clk && down s.seqs.dly &&
    !s.link.txCtrl.claimed && !s.link.txData.claimed && !s.link.txDly.claimed && !s.link.rxData.claimed

/-- The four conditions of the error taxonomy (60_exceptions R270). They are outcomes, stored in no state. -/
inductive Condition where
  | malformedCommand | disabledRegion | resourceExhaustion | stuckTransfer
  deriving DecidableEq, Repr

/-- The code of a condition (60_exceptions R270). -/
def Condition.code : Condition → Nat
  | .malformedCommand => 1
  | .disabledRegion => 2
  | .resourceExhaustion => 3
  | .stuckTransfer => 4

/-- The code of a refusal (60_exceptions R275); the two that are the model's own have none. -/
def Refusal.code : Refusal → Option Nat
  | .halted => some 16
  | .busNotBuilt => some 17
  | .alreadyBuilt => some 18
  | .addressOutOfRange => some 19
  | .chipOutOfRange => some 20
  | .zeroRate => some 21
  | .unknownOperation => some 22
  | .concurrentInvocation => some 23
  | .reservedPattern => some 24
  | _ => none

end Sys2Proof.Machine
end

