-- ==== Sys2Proof/Machine/Memory.lean ====
section
/-! DEFINITION. Shadow memory as a canonical list of cells (10_state R42, 20_memory R94). The accesses are single bytes
(20_memory R71, R72); an operation has tested its address (43_router R212) before it reaches them. -/

namespace Sys2Proof.Machine

/-- How many bytes shadow memory has: four regions of 32 (10_state R42). -/
def shadowSize : Nat := 128

/-- What an unlisted address reads as: the value at power-on. DESIGN CHOICE (10_state R49 leaves it unspecified; log 11). -/
def powerOnByte : Byte := 0#8

/-- The canonical form: addresses strictly rising and inside shadow memory, no entry equal to what an unlisted address reads as. -/
abbrev Memory.wf (m : List Host.Cell) : Prop :=
  (m.map Prod.fst).Pairwise (· < ·) ∧ ∀ c ∈ m, c.1 < shadowSize ∧ c.2 ≠ powerOnByte

/-- `Shadow[a]`. -/
def Memory.read : List Host.Cell → Nat → Byte
  | [], _ => powerOnByte
  | (k, w) :: m, a => if k = a then w else Memory.read m a

/-- An entry put before `m`, left out when it holds what an unlisted address reads as. -/
def Memory.entry (a : Nat) (v : Byte) (m : List Host.Cell) : List Host.Cell :=
  if v = powerOnByte then m else (a, v) :: m

/-- `Shadow[a] <- v`. -/
def Memory.write : List Host.Cell → Nat → Byte → List Host.Cell
  | [], a, v => Memory.entry a v []
  | (k, w) :: m, a, v =>
    if k < a then (k, w) :: Memory.write m a v
    else if k = a then Memory.entry a v m
    else Memory.entry a v ((k, w) :: m)

end Sys2Proof.Machine
end

