-- ==== Sys2Proof/Machine/Ops.lean ====
section
/-! DEFINITION. The named operations over the state: trace, pins, gates and triggers (20_memory R76 to R78), the fatal
outcome (60_exceptions R273), the tests every operation makes first (R275), claiming and releasing the sequencer set
(40_bringup R161, 46_resync R255, R257), and packing a bus transaction (43_router R215). -/

namespace Sys2Proof.Machine

/-- What a step answers. -/
abbrev Answer := Host.Outcome State Fault Refusal

/-- The next step of an operation after a first one; a fault or a refusal ends it. -/
def Answer.andThen (o : Answer) (f : State → Answer) : Answer :=
  match o with
  | .next s => f s
  | .fault r => .fault r
  | .refused r => .refused r

/-! ### Trace, result, pins -/

/-- `emit(e)` (00_scope R13). -/
def State.emit (e : Event) (s : State) : State := { s with trace := s.trace ++ [e] }

/-- `return v` (00_scope R13). -/
def State.returning (r : Result) (s : State) : State := { s with result := r }

/-- `RES <- level` (10_state R44). -/
def State.setRes (level : ResLine) (s : State) : State := { s with pins := { s.pins with res := level } }

/-- `(RW, CS1, CS2) <- (b[0], b[1], b[2])` (30_encoding R127). -/
def Pins.driveControl (b : Select) (p : Pins) : Pins :=
  { p with rw := b.getLsbD 0, cs1 := b.getLsbD 1, cs2 := b.getLsbD 2 }

/-- The two phases of one control word, active then release (30_encoding R127). -/
def Pins.driveWord (cw : ControlWord) (p : Pins) : Pins := (p.driveControl (cwAct cw)).driveControl (cwRel cw)

/-- `dir <- dw[29:16]; out <- dw[13:0]` (20_memory R80). -/
def Pins.driveData (dw : DataWord) (p : Pins) : Pins := { p with dir := dwDir dw, out := dwOut dw }

/-! ### Shadow memory and cells -/

/-- `Shadow[address]` (00_scope R11). -/
def State.shadowAt (s : State) (address : Byte) : Byte := Memory.read s.shadow address.toNat

/-- `Shadow[address] <- v` (20_memory R94). -/
def State.setShadow (address v : Byte) (s : State) : State :=
  { s with shadow := Memory.write s.shadow address.toNat v }

/-- `CW <- cw; DW <- dw`. -/
def State.setWords (cw : ControlWord) (dw : DataWord) (s : State) : State :=
  { s with cells := { s.cells with cw := cw, dw := dw } }

/-! ### Gates and triggers -/

/-- `arm_gates()` (20_memory R78). -/
def State.armGates (s : State) : State :=
  { s with link := { s.link with gateCtrl := .armed, gateData := .armed } }

/-- `trigger(CH_TX_CTRL, CW)` (20_memory R77). -/
def State.triggerCtrl (s : State) : State :=
  { s with link := { s.link with
      txCtrl := { s.link.txCtrl with busy := true }, pendCtrl := some s.cells.cw } }

/-- `trigger(CH_TX_DATA, DW)` (20_memory R77). -/
def State.triggerData (s : State) : State :=
  { s with link := { s.link with
      txData := { s.link.txData with busy := true }, pendData := some s.cells.dw } }

/-- `trigger(CH_TX_DLY, DLW)` (20_memory R77). -/
def State.triggerDelay (s : State) : State :=
  { s with link := { s.link with
      txDly := { s.link.txDly with busy := true }, pendDly := some s.cells.dlw } }

/-- `trigger(CH_RX_DATA)`, arming the receive channel (20_memory R77). -/
def State.triggerReceive (s : State) : State :=
  { s with link := { s.link with rxData := { s.link.rxData with busy := true } } }

/-- `trigger(CH_TX_DATA, DW); trigger(CH_TX_CTRL, CW)`: data first, one step (20_memory R77). -/
def State.triggerBoth (s : State) : State := s.triggerData.triggerCtrl

/-! ### Packing and launching a transaction -/

/-- The words, the shadow write, the gates and the triggers of WRITE (41_dispatcher R181). -/
def State.loadWrite (masked : BusAddr) (pattern : Select) (address data : Byte) (s : State) : State :=
  (((s.setWords (packControl cwBase pattern) (packData dirWrite masked data)).setShadow address data).armGates).triggerBoth

/-- The words, the gates and the triggers of READ, the receive channel last (41_dispatcher R182). -/
def State.loadRead (masked : BusAddr) (pattern : Select) (data : Byte) (s : State) : State :=
  (((s.setWords (packControl cwBase pattern ||| cwReadBit) (packData dirRead masked data)).armGates).triggerBoth).triggerReceive

/-- The words and the triggers of a timed write, no gate armed (42_cycled_dispatch R201). -/
def State.loadCycled (masked : BusAddr) (pattern : Select) (data : Byte) (s : State) : State :=
  (s.setWords (packControl cwBaseCycled pattern) (packData dirWrite masked data)).triggerBoth

/-- The word and the trigger of PAUSE (41_dispatcher R183). -/
def State.loadPause (s : State) : State :=
  ({ s with cells := { s.cells with cw := cwPause } } : State).triggerCtrl

/-- The word and the trigger of CLEAR_BUS (41_dispatcher R184). -/
def State.loadClear (s : State) : State :=
  ({ s with cells := { s.cells with dw := dwClear } } : State).triggerData

/-- `DLW <- cycles; trigger(CH_TX_DLY, DLW)` (42_cycled_dispatch R200). -/
def State.loadDelay (cycles : DelayWord) (s : State) : State :=
  ({ s with cells := { s.cells with dlw := cycles } } : State).triggerDelay

/-! ### The fatal outcome -/

/-- `raise Fatal(ResourceExhaustion(kind))`: the block's one exception (60_exceptions R273). Nothing is saved and control goes
nowhere (R279); there is no return from it (R280), and nothing clears `halted`. -/
def raiseFatal (kind : ResourceKind) (s : State) : State :=
  ({ s with halted := true, phase := .halted } : State).emit (.fatal kind)

/-! ### The tests an operation makes first -/

/-- Whether an operation needs a built bus, needs it not built, or does not care. -/
inductive BusNeed where
  | built | unbuilt | either
  deriving DecidableEq, Repr

/-- The refusals that precede everything else: `concurrent_invocation`, `halted`, `bus_not_built` or `already_built`, in
this order (60_exceptions R275; log 16). -/
def callRefusal (need : BusNeed) (s : State) : Option Refusal :=
  match s.phase with
  | .waitCtrl | .waitRx | .waitDly => some .concurrentInvocation
  | .halted => some .halted
  | .idle =>
    if s.halted then some .halted
    else match need with
      | .built => if s.busBuilt then none else some .busNotBuilt
      | .unbuilt => if s.busBuilt then some .alreadyBuilt else none
      | .either => none

/-- An operation that is refused where `callRefusal` says so and else goes on with `body`. -/
def accept (need : BusNeed) (s : State) (body : State → Answer) : Answer :=
  match callRefusal need s with
  | some r => .refused r
  | none => body s

/-! ### The sequencer set: claim, program, configure, release (10_state R31) -/

/-- Claim a slot for a sequencer and load its program; both places are the platform's choice (40_bringup R161, log 8). -/
def SequencerState.claimAndProgram (build : Nat) (which : Sequencer) (q : SequencerState) : SequencerState :=
  { q with claimed := true, slot := Config.freeSlot build which, offset := Config.loadOffset build which, loaded := true }

/-- Configure a sequencer's divider. -/
def SequencerState.configure (d : Rat) (q : SequencerState) : SequencerState := { q with div := d }

/-- Unload and unclaim a stopped sequencer (46_resync R255). -/
def SequencerState.release (q : SequencerState) : SequencerState :=
  { q with running := false, loaded := false, claimed := false }

/-- Start or stop a sequencer. -/
def SequencerState.setRunning (b : Bool) (q : SequencerState) : SequencerState := { q with running := b }

/-- Start or stop all four sequencers together. -/
def SequencerSet.setRunning (b : Bool) (q : SequencerSet) : SequencerSet :=
  ⟨q.ctrl.setRunning b, q.data.setRunning b, q.clk.setRunning b, q.dly.setRunning b⟩

/-- Claim, program and configure all four sequencers (40_bringup R161). -/
def State.claimSequencers (divBus divClk : Rat) (s : State) : State :=
  { s with
    seqs := ⟨(s.seqs.ctrl.claimAndProgram s.draws .ctrl).configure divBus,
             (s.seqs.data.claimAndProgram s.draws .data).configure divBus,
             (s.seqs.clk.claimAndProgram s.draws .clk).configure divClk,
             (s.seqs.dly.claimAndProgram s.draws .dly).configure divBus⟩
    draws := s.draws + 1 }

/-- Channels claimed and idle, gates open, nothing in flight (40_bringup R161). -/
def Link.claimedIdle : Link where
  txCtrl := ⟨true, false⟩
  txData := ⟨true, false⟩
  txDly := ⟨true, false⟩
  rxData := ⟨true, false⟩
  gateCtrl := .opened
  gateData := .opened
  pendCtrl := none
  pendData := none
  pendDly := none
  rxSample := none

/-- The end of `setupBus`: channels claimed, everything running, the bus built (40_bringup R161). -/
def State.finishBuild (divBus divClk : Rat) (s : State) : State :=
  ({ s with link := Link.claimedIdle, seqs := s.seqs.setRunning true, phaseAligned := false, busBuilt := true } : State).emit
    (.busBuilt divBus divClk)

/-- The body of `setupBus` after its tests (40_bringup R161, R162). -/
def buildBus (s : State) : Answer :=
  match computeDividers s.plat s.conf.clockRate with
  | .error r => .refused r
  | .ok (divBus, divClk) =>
    let s := { s with divBus := divBus, divClk := divClk }
    if s.env.freeSeq < 4 then .next (raiseFatal .sequencer s)
    else
      let s := s.claimSequencers divBus divClk
      if s.env.freeCh < 4 then .next (raiseFatal .channel s) else .next (s.finishBuild divBus divClk)

/-- The teardown of `rebuildBus` (46_resync R255): everything stopped, aborted, unloaded and unclaimed. -/
def State.teardown (s : State) : State :=
  ({ s with
      seqs := ⟨s.seqs.ctrl.release, s.seqs.data.release, s.seqs.clk.release, s.seqs.dly.release⟩
      link := Link.atReset, phaseAligned := false, busBuilt := false } : State).emit .busTornDown

/-- The body of `phaseSync` after its tests (46_resync R257). -/
def State.syncPhases (s : State) : State :=
  let s := if s.plat.atomicRestart then s
    else { s with seqs := (s.seqs.setRunning false).setRunning true }
  ({ s with phaseAligned := true } : State).emit .phaseSync

end Sys2Proof.Machine
end

