-- ==== Sys2Proof/Machine/Agents.lean ====
section
/-! DEFINITION. The steps of the sequencer and channel agents (20_memory R80 to R86): when each is enabled and what it does. -/

namespace Sys2Proof.Machine

/-- Both control and data sequencers are running on a built bus (20_memory, section 4). -/
def State.busSequencersRun (s : State) : Bool := s.busBuilt && s.seqs.ctrl.running && s.seqs.data.running

/-- Both gates are armed. -/
def Link.bothArmed (l : Link) : Bool := decide (l.gateCtrl = .armed) && decide (l.gateData = .armed)

/-- Both gates are open. -/
def Link.bothOpen (l : Link) : Bool := decide (l.gateCtrl = .opened) && decide (l.gateData = .opened)

/-- What the data lines carry when a read samples them (20_memory R84): the environment's next answer, or the free oracle. -/
def State.chipByte (s : State) (sel : Select) (a6 : BusAddr) : Byte :=
  match s.env.chipAnswers with
  | v :: _ => v
  | [] => Config.chipSample s.trace sel a6

/-- Sample `k` of the running detection (45_clock R244): the environment's, or a free one. -/
def State.clkSampleAt (s : State) (k : Nat) : Bool := (s.env.clkSamples[k]?).getD (Config.clkSample s.draws k)

/-- When an agent step is enabled (20_memory R80 to R86). -/
def State.enables (s : State) : AgentStep → Bool
  | .jointWrite =>
    match s.link.pendCtrl, s.link.pendData with
    | some cw, some _ =>
      s.busSequencersRun && !cwIsRead cw && s.link.pendDly.isNone &&
        ((s.link.bothArmed && s.edgeAvailable) || s.link.bothOpen)
    | _, _ => false
  | .jointRead =>
    match s.link.pendCtrl, s.link.pendData with
    | some cw, some _ => s.busSequencersRun && cwIsRead cw && s.link.bothArmed && s.edgeAvailable
    | _, _ => false
  | .ctlOnly =>
    match s.link.pendCtrl, s.link.pendData with
    | some _, none => s.busBuilt && s.seqs.ctrl.running && decide (s.link.gateCtrl = .opened)
    | _, _ => false
  | .dataOnly =>
    match s.link.pendCtrl, s.link.pendData with
    | none, some _ => s.busBuilt && s.seqs.data.running && decide (s.link.gateData = .opened)
    | _, _ => false
  | .receive => s.link.rxData.busy && s.link.rxSample.isSome
  | .delay => s.seqs.dly.running && s.link.pendDly.isSome

/-- Both words have been executed: nothing pending on the two sequencers, their channels done, both gates open (R80, R81). -/
def Link.wordsDone (l : Link) : Link :=
  { l with
    txCtrl := { l.txCtrl with busy := false }, txData := { l.txData with busy := false },
    gateCtrl := .opened, gateData := .opened, pendCtrl := none, pendData := none }

/-- Joint write transaction of the words `cw`, `dw` (20_memory R80). -/
def State.runJointWrite (cw : ControlWord) (dw : DataWord) (s : State) : State :=
  { s with
    pins := (s.pins.driveData dw).driveWord cw
    trace := s.trace ++
      [.busWrite (cwAct cw) (dwAddr dw) (dwData dw) (if s.link.bothArmed then .gated else .ungated)]
    link := s.link.wordsDone }

/-- Joint read transaction of the words `cw`, `dw`, which samples the data lines once (20_memory R81). -/
def State.runJointRead (cw : ControlWord) (dw : DataWord) (s : State) : State :=
  { s with
    pins := (s.pins.driveData dw).driveWord cw
    trace := s.trace ++ [.busRead (cwAct cw) (dwAddr dw) (s.chipByte (cwAct cw) (dwAddr dw))]
    link := { s.link.wordsDone with rxSample := some (s.chipByte (cwAct cw) (dwAddr dw)) }
    env := { s.env with chipAnswers := s.env.chipAnswers.tail } }

/-- Control-only transaction of the word `cw` (20_memory R82). -/
def State.runCtlOnly (cw : ControlWord) (s : State) : State :=
  { s with
    pins := s.pins.driveWord cw
    trace := s.trace ++ [.busCtl (cwAct cw) (cwRel cw)]
    link := { s.link with txCtrl := { s.link.txCtrl with busy := false }, pendCtrl := none } }

/-- Data-only transaction of the word `dw` (20_memory R83). -/
def State.runDataOnly (dw : DataWord) (s : State) : State :=
  { s with
    pins := s.pins.driveData dw
    trace := s.trace ++ [.busData (dwDirMask dw) (dwValues dw)]
    link := { s.link with txData := { s.link.txData with busy := false }, pendData := none } }

/-- Receive-channel step: the sample goes to the top byte of `RR`, the low 24 bits are free (20_memory R85, log 14). -/
def State.runReceive (v : Byte) (s : State) : State :=
  { s with
    cells := { s.cells with rrTop := v, rrLow := Config.rrLow s.draws }
    draws := s.draws + 1
    link := { s.link with rxData := { s.link.rxData with busy := false }, rxSample := none } }

/-- Delay-sequencer step: the count `n` is over (20_memory R86). -/
def State.runDelay (n : DelayWord) (s : State) : State :=
  { s with
    trace := s.trace ++ [.delay n]
    link := { s.link with txDly := { s.link.txDly with busy := false }, pendDly := none } }

/-- The effect of an agent step; without the word or sample it works on it has none. -/
def State.perform (s : State) : AgentStep → State
  | .jointWrite =>
    match s.link.pendCtrl, s.link.pendData with
    | some cw, some dw => s.runJointWrite cw dw
    | _, _ => s
  | .jointRead =>
    match s.link.pendCtrl, s.link.pendData with
    | some cw, some dw => s.runJointRead cw dw
    | _, _ => s
  | .ctlOnly =>
    match s.link.pendCtrl with
    | some cw => s.runCtlOnly cw
    | none => s
  | .dataOnly =>
    match s.link.pendData with
    | some dw => s.runDataOnly dw
    | none => s
  | .receive =>
    match s.link.rxSample with
    | some v => s.runReceive v
    | none => s
  | .delay =>
    match s.link.pendDly with
    | some n => s.runDelay n
    | none => s

/-- An agent takes its step if it is enabled, else nothing happens. -/
def State.tryAgent (a : AgentStep) (s : State) : State := if s.enables a then s.perform a else s

/-- One bus transaction, if one is enabled. At most one of the four is, since they ask for different words. -/
def State.tryBus (s : State) : State :=
  if s.enables .jointWrite then s.perform .jointWrite
  else if s.enables .jointRead then s.perform .jointRead
  else if s.enables .ctlOnly then s.perform .ctlOnly
  else s.tryAgent .dataOnly

/-- The agents run until none has a step: a delay releases the transaction that waits for it, and a read transaction the
receive channel. -/
def State.settle (s : State) : State := ((s.tryAgent .delay).tryBus).tryAgent .receive

/-- One enabled agent step, if there is one (weak fairness, 00_scope R7). -/
def State.tick (s : State) : State :=
  if s.enables .delay then s.perform .delay
  else if s.enables .receive then s.perform .receive
  else s.tryBus

end Sys2Proof.Machine
end

