-- ==== Sys2Proof/Machine/Tasks.lean ====
section
/-! DEFINITION. How the dispatcher runs an operation: the hold (20_memory R77), the blocking waits (R79), and the list of
primitive operations an operation consists of (10_state R25). A wait that no agent can lift ends the step with the
phase in that wait, for ever, and the rest of the list in the state (60_exceptions R274; log 7). -/

namespace Sys2Proof.Machine

/-- What one primitive operation answers. -/
inductive Progress where
  | done (s : State)
  | blocked (s : State)
  | fault (r : Fault)
  | refused (r : Refusal)

/-- The hold before the first trigger of an operation (20_memory R77): the agents run, then no channel may be busy (log 15). -/
def hold (s : State) : Option State := if s.settle.link.anyBusy then none else some s.settle

/-- An operation that goes on with `body` after the hold, so that what an earlier operation left in flight comes before its
events (20_memory R77, R89 (3)). -/
def afterHold (s : State) (body : State → Answer) : Answer :=
  match hold s with
  | none => .fault .holdNeverLifts
  | some s => body s

/-- The wait phase of a channel (20_memory R79). -/
def WaitPoint.phase : WaitPoint → Phase
  | .ctrl => .waitCtrl
  | .rx => .waitRx
  | .dly => .waitDly

/-- The channel a wait is for is still busy (20_memory R79). -/
def WaitPoint.busy (l : Link) : WaitPoint → Bool
  | .ctrl => l.txCtrl.busy
  | .rx => l.rxData.busy
  | .dly => l.txDly.busy

/-- `wait(c)` (20_memory R79): in the wait phase only the agents move; when the channel is done the phase is `IDLE` again. -/
def await (w : WaitPoint) (s : State) : Progress :=
  let s := ({ s with phase := w.phase } : State).settle
  if w.busy s.link then .blocked s else .done { s with phase := .idle }

/-- `dispatch(0x10, address, data)` up to its wait: hold, route, then the words, the shadow byte, the gates and the triggers
(41_dispatcher R180, R181). A disabled region is inert. -/
def launchWrite (address data : Byte) (s : State) : Progress :=
  match hold s with
  | none => .fault .holdNeverLifts
  | some s =>
    match routeIn s.conf.region address with
    | .error r => .refused r
    | .ok .disabled => .done s
    | .ok (.entry masked pattern) => .done (s.loadWrite masked pattern address data)

/-- `dispatch(0x12, 0, 0)` up to its wait (41_dispatcher R180, R183). -/
def launchPause (s : State) : Progress :=
  match hold s with
  | none => .fault .holdNeverLifts
  | some s => .done s.loadPause

/-- One turn of the mute pass: capture the shadow byte, then write it muted (44_lifecycle R222). A chip index above 3 has no
volume register (93 U27, log 18). -/
def launchMute (chip : Nat) (s : State) : Progress :=
  if h : chip < 4 then
    let v := s.shadowAt (volumeAddress chip)
    launchWrite (volumeAddress chip) (mutedByte v) { s with volCache := s.volCache.set chip v h }
  else .refused .addressOutOfRange

/-- One turn of the unmute pass: the cached byte, forced if its low nibble is zero, is written back (44_lifecycle R223). -/
def launchUnmute (chip : Nat) (s : State) : Progress :=
  if h : chip < 4 then
    let v := unmutedByte (s.volCache[chip]'h)
    launchWrite (volumeAddress chip) v { s with volCache := s.volCache.set chip v h }
  else .refused .addressOutOfRange

/-- One primitive operation. -/
def runTask (t : Task) (s : State) : Progress :=
  match t with
  | .launchWrite address data => launchWrite address data s
  | .launchPause => launchPause s
  | .launchMute chip => launchMute chip s
  | .launchUnmute chip => launchUnmute chip s
  | .await w => await w s
  | .latchRead address => .done ((s.setShadow address s.cells.rrTop).returning (.byte s.cells.rrTop))
  | .releaseSelects => .done (({ s with pins := { s.pins with cs1 := true, cs2 := true } } : State).emit .csRelease)
  | .assertRes => .done ((s.setRes .asserted).emit .resAssert)
  | .clearPaused => .done { s with paused := false }
  | .flipPaused => .done { s with paused := !s.paused }
  | .answer r => .done (s.returning r)

/-- The primitive operations of an operation in order. One that blocks leaves itself and the rest in `todo` (log 7). -/
def runTasks : List Task → State → Answer
  | [], s => .next s
  | t :: ts, s =>
    match runTask t s with
    | .done s' => runTasks ts s'
    | .blocked s' => .next { s' with todo := t :: ts }
    | .fault r => .fault r
    | .refused r => .refused r

/-- The wait of a blocked operation is tried again, and the operation goes on if the channel is done (20_memory R79). No step
of a run makes it so: `stuck` is terminal (60_exceptions R274; log 7). -/
def resume (s : State) : Answer := runTasks s.todo { s with todo := [] }

/-- The blocking WRITEs of `clearRegisters` (44_lifecycle R228). -/
def clearTasks (chip : Nat) (offsets : List (BitVec 5)) : List Task :=
  offsets.flatMap fun off => [.launchWrite (registerAddress chip off) 0x00#8, .await .ctrl]

/-- The mute pass over `n` chips in ascending order (44_lifecycle R222). -/
def muteTasks (n : Nat) : List Task := (List.range n).flatMap fun i => [.launchMute i, .await .ctrl]

/-- The unmute pass over `n` chips in ascending order (44_lifecycle R223). -/
def unmuteTasks (n : Nat) : List Task := (List.range n).flatMap fun i => [.launchUnmute i, .await .ctrl]

end Sys2Proof.Machine
end

