-- ==== Sys2Proof/Machine/Bringup.lean ====
section
/-! DEFINITION. Pin and sequencer bring-up (40_bringup). -/

namespace Sys2Proof.Machine

/-- The pins as `initPins` leaves them: control lines idle outputs, data and address pins inputs, `RES` deasserted
(40_bringup R160). -/
def Pins.initialised (p : Pins) : Pins :=
  { p with ctlOutputs := true, cs1 := true, cs2 := true, rw := false, dir := 0, res := .deasserted }

/-- INIT_PINS (40_bringup R160). Whether the chips see a reset pulse on the way is not told by the state (log 19). -/
def execInitPins (s : State) : Answer :=
  accept .either s fun s =>
    afterHold s fun s => .next ((({ s with pins := s.pins.initialised } : State).emit .pinsInit).returning .none)

/-- SETUP_BUS (40_bringup R161, R162, R164). Without a built bus nothing is in flight, so nothing is held for (log 1). -/
def execSetupBus (s : State) : Answer :=
  accept .unbuilt s fun s => (buildBus s).andThen fun s => .next (s.returning .none)

end Sys2Proof.Machine
end

