-- ==== Sys2Proof/Machine/Clock.lean ====
section
/-! DEFINITION. Clock management (45_clock). -/

namespace Sys2Proof.Machine

/-- COMPUTE_CLOCK_DIVIDER (45_clock R240): a pure function of the platform and the rate, accepted in every state (log 16). -/
def execComputeClockDivider (rate : Nat) (s : State) : Answer :=
  match computeDividers s.plat rate with
  | .error r => .refused r
  | .ok (divBus, divClk) => .next (s.returning (.dividers divBus divClk))

/-- Some of the samples of a detection reads 1 (45_clock R244). -/
def State.clockActivity (s : State) : Bool := (List.range detectIter).any s.clkSampleAt

/-- The state after a detection has taken its samples from the environment (log 6). -/
def State.samplesTaken (s : State) : State :=
  { s with env := { s.env with clkSamples := s.env.clkSamples.drop detectIter }, draws := s.draws + 1 }

/-- DETECT_EXTERNAL_CLOCK (45_clock R244, R245): "external" when some sample reads 1. Without a
built bus nothing is in flight, so nothing is held for (log 1). -/
def execDetectExternalClock (s : State) : Answer :=
  accept .unbuilt s fun s =>
    let b := s.clockActivity
    .next ((({ s.samplesTaken with clkExternal := b } : State).emit (.clockDetect b)).returning (.clock b))

end Sys2Proof.Machine
end

