-- ==== Sys2Proof/Machine/Cycled.lean ====
section
/-! DEFINITION. The timed write (42_cycled_dispatch). -/

namespace Sys2Proof.Machine

/-- The write part (42_cycled_dispatch R201): the shadow byte, then the words and triggers unless the region is disabled. -/
def cycledWritePart (address data : Byte) (s : State) : Answer :=
  match routeIn s.conf.region address with
  | .error r => .refused r
  | .ok .disabled =>
    .next ((if s.plat.cycShadowOnDisabled then s.setShadow address data else s).returning .none)
  | .ok (.entry masked pattern) =>
    .next (((s.setShadow address data).loadCycled masked pattern data).returning .none)

/-- CYCLED_DISPATCH (42_cycled_dispatch R200): the delay if there is one, then the write part; the honoured sentinel only
waits for its delay (R202). -/
def execCycledDispatch (address data : Byte) (cycles : DelayWord) (s : State) : Answer :=
  accept .built s fun s =>
    if routable address || honouredSentinel address data cycles then
      afterHold s fun s =>
        if honouredSentinel address data cycles then
          runTasks [.await .dly, .answer .none] (s.loadDelay cycles)
        else if 1 ≤ cycles.toNat then cycledWritePart address data (s.loadDelay cycles)
        else cycledWritePart address data s
    else .refused .addressOutOfRange

end Sys2Proof.Machine
end

