-- ==== Sys2Proof/Machine/Dispatcher.lean ====
section
/-! DEFINITION. The four commands of `dispatch` and the ignored commands (41_dispatcher). -/

namespace Sys2Proof.Machine

/-- WRITE (41_dispatcher R181): blocks on the control channel, result 0. -/
def execWrite (address data : Byte) (s : State) : Answer :=
  accept .built s fun s => runTasks [.launchWrite address data, .await .ctrl, .answer (.byte 0x00#8)] s

/-- READ (41_dispatcher R182): blocks on the receive channel; the sampled byte goes to shadow memory and is the result. A
disabled region is inert with result 0. -/
def execRead (address data : Byte) (s : State) : Answer :=
  accept .built s fun s =>
    afterHold s fun s =>
      match routeIn s.conf.region address with
      | .error r => .refused r
      | .ok .disabled => .next (s.returning (.byte 0x00#8))
      | .ok (.entry masked pattern) => runTasks [.await .rx, .latchRead address] (s.loadRead masked pattern data)

/-- PAUSE (41_dispatcher R183): blocks on the control channel, result 0; the operands are ignored. -/
def execPause (_address _data : Byte) (s : State) : Answer :=
  accept .built s fun s => runTasks [.launchPause, .await .ctrl, .answer (.byte 0x00#8)] s

/-- CLEAR_BUS (41_dispatcher R184): returns with its data word in flight, result 0; the operands are ignored. -/
def execClearBus (_address _data : Byte) (s : State) : Answer :=
  accept .built s fun s =>
    afterHold s fun s => .next (s.loadClear.returning (.byte 0x00#8))

/-- A malformed or reserved command: inert, result 0, whether or not the bus is built (30_encoding R123, R125;
41_dispatcher R180, R185). -/
def execIgnored (s : State) : Answer := accept .either s fun s => .next (s.returning (.byte 0x00#8))

end Sys2Proof.Machine
end

