-- ==== Sys2Proof/Machine/Lifecycle.lean ====
section
/-! DEFINITION. The chip lifecycle and mute state machine (44_lifecycle). -/

namespace Sys2Proof.Machine

/-- MUTE (44_lifecycle R222). -/
def execMute (s : State) : Answer :=
  accept .built s fun s => runTasks (muteTasks s.conf.numChips ++ [.answer .none]) s

/-- UNMUTE (44_lifecycle R223). -/
def execUnmute (s : State) : Answer :=
  accept .built s fun s => runTasks (unmuteTasks s.conf.numChips ++ [.answer .none]) s

/-- ENABLE (44_lifecycle R224): release the chips' reset, unmute, clear `paused`. -/
def execEnable (s : State) : Answer :=
  accept .built s fun s =>
    afterHold s fun s =>
      runTasks (unmuteTasks s.conf.numChips ++ [.clearPaused, .answer .none]) ((s.setRes .deasserted).emit .resDeassert)

/-- DISABLE (44_lifecycle R225): mute, release the chip selects directly, assert the chips' reset. -/
def execDisable (s : State) : Answer :=
  accept .built s fun s =>
    afterHold s fun s =>
      runTasks (muteTasks s.conf.numChips ++ [.releaseSelects, .assertRes, .answer .none]) s

/-- PAUSE_TOGGLE (44_lifecycle R226): the mute or the unmute pass, a PAUSE command, then `paused` flips. -/
def execPauseToggle (s : State) : Answer :=
  accept .built s fun s =>
    runTasks
      ((if s.paused then unmuteTasks s.conf.numChips else muteTasks s.conf.numChips) ++
        [.launchPause, .await .ctrl, .flipPaused, .answer .none]) s

/-- `any_real` (10_state R38). -/
def anyReal (c : Conf) : Bool := c.chipReal[0] || c.chipReal[1] || c.chipReal[2] || c.chipReal[3]

/-- The pulse is held for `RESET_HOLD_US` when some chip is real (44_lifecycle R227). -/
def State.holdReset (s : State) : State := if anyReal s.conf then s.emit (.resHold s.plat.resetHoldUs) else s

/-- The pulse on `RES` (44_lifecycle R227). -/
def State.resetPulse (s : State) : State :=
  ((((s.setRes .asserted).emit .resAssert).holdReset).setRes .deasserted).emit .resDeassert

/-- HARD_RESET (44_lifecycle R227): a pulse on `RES`, held when some chip is real; needs no bus. -/
def execHardReset (s : State) : Answer :=
  accept .either s fun s =>
    afterHold s fun s => .next (s.resetPulse.returning .none)

/-- CLEAR_REGISTERS (44_lifecycle R228): a blocking WRITE of zero to every clearable register of a chip. -/
def execClearRegisters (chip : Byte) (s : State) : Answer :=
  accept .built s fun s =>
    if chip.toNat < 4 then
      runTasks (clearTasks chip.toNat (clearableRegisters s.plat) ++ [.answer .none]) s
    else .refused .chipOutOfRange

end Sys2Proof.Machine
end

