-- ==== Sys2Proof/Machine/Resync.lean ====
section
/-! DEFINITION. Bus resynchronisation (46_resync). -/

namespace Sys2Proof.Machine

/-- The end of a rebuild: `phaseSync` unless bring-up was fatal (46_resync R255). -/
def State.afterRebuild (s : State) : State := if s.halted then s else s.syncPhases

/-- REBUILD_BUS (46_resync R255): teardown, `setupBus`, `phaseSync`. Work in flight is dropped (R256). -/
def execRebuildBus (s : State) : Answer :=
  accept .built s fun s => (buildBus s.teardown).andThen fun s => .next (s.afterRebuild.returning .none)

/-- PHASE_SYNC (46_resync R257): the hold has drained earlier work. -/
def execPhaseSync (s : State) : Answer :=
  accept .built s fun s => afterHold s fun s => .next (s.syncPhases.returning .none)

end Sys2Proof.Machine
end

