-- ==== Sys2Proof/Machine/Router.lean ====
section
/-! DEFINITION. The address router as an operation (43_router R210). -/

namespace Sys2Proof.Machine

/-- ROUTE (43_router R210): a pure function of the address and the region table, accepted in every state (log 16). -/
def execRoute (address : Byte) (s : State) : Answer :=
  match routeIn s.conf.region address with
  | .error r => .refused r
  | .ok r => .next (s.returning (.routed r))

end Sys2Proof.Machine
end

