-- ==== Sys2Proof/Machine/Dispatch.lean ====
section
/-! DEFINITION. The meaning of every operation, one arm per constructor of `Instr`. -/

namespace Sys2Proof.Machine

/-- The meaning of an operation (30_encoding R120). -/
def exec (i : Instr) (s : State) : Host.Outcome State Fault Refusal :=
  match i with
  | .write address data => Sys2Proof.Machine.execWrite address data s
  | .read address data => Sys2Proof.Machine.execRead address data s
  | .pause address data => Sys2Proof.Machine.execPause address data s
  | .clearBus address data => Sys2Proof.Machine.execClearBus address data s
  | .cycledDispatch address data cycles => Sys2Proof.Machine.execCycledDispatch address data cycles s
  | .enable => Sys2Proof.Machine.execEnable s
  | .disable => Sys2Proof.Machine.execDisable s
  | .pauseToggle => Sys2Proof.Machine.execPauseToggle s
  | .hardReset => Sys2Proof.Machine.execHardReset s
  | .clearRegisters chip => Sys2Proof.Machine.execClearRegisters chip s
  | .initPins => Sys2Proof.Machine.execInitPins s
  | .setupBus => Sys2Proof.Machine.execSetupBus s
  | .rebuildBus => Sys2Proof.Machine.execRebuildBus s
  | .computeClockDivider rate => Sys2Proof.Machine.execComputeClockDivider rate s
  | .detectExternalClock => Sys2Proof.Machine.execDetectExternalClock s
  | .route address => Sys2Proof.Machine.execRoute address s
  | .phaseSync => Sys2Proof.Machine.execPhaseSync s
  | .mute => Sys2Proof.Machine.execMute s
  | .unmute => Sys2Proof.Machine.execUnmute s

end Sys2Proof.Machine
end

