-- ==== Sys2Proof/Machine/Port.lean ====
section
/-! DEFINITION. What happens at the block's boundary besides operations: configuration loads (20_memory R90), changes of the
environment (00_scope R8), agent steps between operations, and the quiet step (00_scope R7). -/

namespace Sys2Proof.Machine

/-- The configuration collaborator loads the configuration registers, only while `phase = IDLE` (20_memory R90; log 20). -/
def loadConfiguration (c : Conf) (s : State) : Answer :=
  if s.phase = .idle then .next { s with conf := c } else .refused .configurationBusy

/-- The environment's answers from now on. `PhiAlive` says whether `PHI` ever shows another edge (00_scope R6), so it may turn
false, when an external clock stops, but never true again: `stuck` is terminal (60_exceptions R274; log 7). -/
def Env.follows (old new : Env) : Env := { new with phiAlive := old.phiAlive && new.phiAlive }

/-- The environment's answers change (00_scope R6, R8). DESIGN CHOICE: they change in a step of their own only, so an external
clock does not stop in the middle of an operation (log 28). -/
def worldChange (e : Env) (s : State) : Answer := .next { s with env := Env.follows s.env e }

/-- The wait of a blocked operation is looked at again; an unblocked dispatcher has nothing to go on with. -/
def continueBlocked (s : State) : Answer := if s.phase.isWait then resume s else .next s

/-- One agent takes a step between operations (00_scope R8, log 1). -/
def agentMove (a : AgentStep) (s : State) : Answer := continueBlocked (s.tryAgent a)

/-- Nothing arrives at the boundary: an enabled agent moves (weak fairness, 00_scope R7). -/
def quietMove (s : State) : Answer := continueBlocked s.tick

/-- The refusal of a request that selects no operation (30_encoding R121; its place in the order of tests: log 21). -/
def refuseUnknown (s : State) : Answer := accept .either s fun _ => .refused .unknownOperation

end Sys2Proof.Machine
end

