-- ==== Sys2Proof/Machine/Step.lean ====
section
/-! DEFINITION. One step of the machine: the next stimulus of `inbox` is taken, or, when there is none, an agent moves. The
block fetches nothing (10_state R25); a request is what the caller issues (30_encoding R121; log 2). -/

namespace Sys2Proof.Machine

/-- A request is decoded and its operation runs; an ignored command is inert, an unknown operation is refused (30_encoding R141). -/
def issue (r : Request) (s : State) : Answer :=
  match decode r with
  | .op i => exec i s
  | .ignored => execIgnored s
  | .unknown => refuseUnknown s

/-- One step of the machine. -/
def step (s : State) : Host.Outcome State Fault Refusal :=
  match s.inbox with
  | [] => quietMove s
  | .request r :: rest => issue r { s with inbox := rest }
  | .configure c :: rest => loadConfiguration c { s with inbox := rest }
  | .world e :: rest => worldChange e { s with inbox := rest }
  | .agent a :: rest => agentMove a { s with inbox := rest }

/-- `s` with the request of the word `w` (its low `nbits` bits, every bit above zero) the next thing that arrives. -/
def State.withFetchWord (s : State) (nbits w : Nat) : State :=
  { s with inbox := .request (Request.ofWord (wordOfBytes (bytesOfWord (nbits / 8) w))) :: s.inbox }

end Sys2Proof.Machine
end

