-- ==== Sys2Proof/Safety.lean ====
section
/-! DEFINITION. What a safe run is, in the terms the statements use: the invariant of the controller, the preconditions of an
operation, and the effect of a blocking write and of the mute passes, spelled out in the words of 41_dispatcher and
44_lifecycle. -/

namespace Sys2Proof.Machine

/-! ### The invariant of the controller -/

/-- The control word on its way asks for a read. -/
def Link.readPending (l : Link) : Bool := l.pendCtrl.any cwIsRead

/-- Channels, gates and words agree (10_state R32 to R34): a channel is busy as long as its word is pending; a waiting sample
belongs to an armed receive channel, and its transaction is over; armed gates hold back the two words of one WRITE or READ,
with no delay counting; while a delay counts, both words of a timed write wait or none; an ungated pair of words is never a
read (20_memory R81). -/
abbrev Link.Consistent (l : Link) : Prop :=
  (l.txCtrl.busy = l.pendCtrl.isSome ∧ l.txData.busy = l.pendData.isSome ∧ l.txDly.busy = l.pendDly.isSome) ∧
  (l.rxSample.isSome = true →
    l.rxData.busy = true ∧ l.pendCtrl.isSome = false ∧ l.pendData.isSome = false ∧ l.pendDly.isSome = false) ∧
  (l.pendDly.isSome = true → l.pendCtrl.isSome = l.pendData.isSome) ∧
  l.gateCtrl = l.gateData ∧
  (l.gateCtrl = .armed → l.pendCtrl.isSome = true ∧ l.pendData.isSome = true ∧ l.pendDly.isSome = false) ∧
  (l.gateCtrl = .armed → l.readPending = true → l.rxData.busy = true) ∧
  (l.rxData.busy = true → l.rxSample.isSome = true ∨ (l.gateCtrl = .armed ∧ l.readPending = true)) ∧
  (l.gateCtrl = .opened → l.pendData.isSome = true → l.readPending = false)

/-- A task that launches a transaction, to be followed by a wait on the control channel. -/
def Task.launches : Task → Bool
  | .launchWrite _ _ => true
  | .launchPause => true
  | .launchMute _ => true
  | .launchUnmute _ => true
  | .await _ => false
  | .latchRead _ => false
  | .releaseSelects => false
  | .assertRes => false
  | .clearPaused => false
  | .flipPaused => false
  | .answer _ => false

/-- A task that neither launches nor waits; a read latches into an address that has a shadow byte. -/
def Task.plain : Task → Bool
  | .launchWrite _ _ => false
  | .launchPause => false
  | .launchMute _ => false
  | .launchUnmute _ => false
  | .await _ => false
  | .latchRead address => routable address
  | .releaseSelects => true
  | .assertRes => true
  | .clearPaused => true
  | .flipPaused => true
  | .answer _ => true

/-- A task that waits at the wait point `w`. -/
def Task.awaits (w : WaitPoint) : Task → Bool
  | .await w' => decide (w' = w)
  | _ => false

/-- A list of tasks in which every launch is followed at once by its wait; with `true`, one that begins with such a wait. -/
def tasksPaired : List Task → Bool → Bool
  | [], launched => !launched
  | t :: ts, true => t.awaits .ctrl && tasksPaired ts false
  | t :: ts, false => if t.launches then tasksPaired ts true else t.plain && tasksPaired ts false

/-- A list of tasks that begins with the wait `w` and goes on with paired tasks. -/
def tasksAwait (w : WaitPoint) : List Task → Bool
  | t :: ts => t.awaits w && tasksPaired ts false
  | [] => false

/-- What is left to do fits the phase (10_state R25): nothing outside a wait, the rest of the operation inside one. -/
def State.todoFits (s : State) : Bool :=
  match s.phase with
  | .idle | .halted => s.todo.isEmpty
  | .waitCtrl => tasksAwait .ctrl s.todo
  | .waitRx => tasksAwait .rx s.todo
  | .waitDly => tasksAwait .dly s.todo

/-- The invariant of the controller, in every state a run reaches:
shadow memory is canonical; `halted` is the phase HALTED and leaves no built bus; a built bus has every sequencer running and
every channel claimed, and without one nothing is claimed, loaded or running unless bring-up was fatal (46_resync R259);
without a built bus nothing is in flight; a wait seen between steps is a stuck transaction: gates armed, no edge ever to come
(log 7), never a wait for a delay (log 27), and in WAIT_RX exactly when its word is a read (60_exceptions R274); channels, gates
and words agree; outside a wait the gates are open and no read is under way; the rest of a blocked operation fits its wait. -/
abbrev ControllerInv (s : State) : Prop :=
  Memory.wf s.shadow ∧
  (s.halted = true ↔ s.phase = .halted) ∧
  (s.halted = true → s.busBuilt = false) ∧
  (s.busBuilt = true → s.fullyClaimed = true) ∧
  (s.busBuilt = false → s.link.drained = true ∧ s.link.bothOpen = true) ∧
  (s.phase.isWait = true → s.busBuilt = true ∧ s.link.gateCtrl = .armed ∧ s.edgeAvailable = false) ∧
  s.link.Consistent ∧
  (s.phase = .idle → s.link.gateCtrl = .opened ∧ s.link.rxData.busy = false) ∧
  s.phase ≠ .waitDly ∧
  (s.phase.isWait = true → (s.link.readPending = true ↔ s.phase = .waitRx)) ∧
  s.todoFits = true ∧
  (s.busBuilt = false → s.halted = false → s.fullyReleased = true)

/-! ### What an operation asks of the state before it -/

/-- The dispatcher is idle on a built bus: the tests of 60_exceptions R275 before the operands pass. -/
abbrev State.Ready (s : State) : Prop := s.phase = .idle ∧ s.halted = false ∧ s.busBuilt = true

/-- No region holds a reserved pattern (70_reset_and_hazards R302). -/
abbrev NoReservedPatterns (c : Conf) : Prop := ∀ r : Fin 4, patternReserved c.region[r].pattern = false

/-! ### The dividers of a rate (45_clock R240) -/

/-- The divider of the bus sequencers, `DIV_QUANT(SYS_CLK_HZ / (64 * rate))`. -/
def busDivider (p : Platform) (rate : Nat) : Rat := divQuant p.divQuant (p.sysClkHz / (64 * rate))

/-- The divider of the clock generator, `DIV_QUANT(SYS_CLK_HZ / (2 * rate))`. -/
def clkDivider (p : Platform) (rate : Nat) : Rat := divQuant p.divQuant (p.sysClkHz / (2 * rate))

/-! ### The effect of a blocking write -/

/-- The effect of a completed `dispatch(0x10, address, data)` (41_dispatcher R181): what was in flight has run, then, unless
the region is disabled, the words, the shadow byte, the pins after the release phase and one gated write event. -/
def blockingWrite (address data : Byte) (s : State) : State :=
  match routeIn s.settle.conf.region address with
  | .ok (.entry masked pattern) =>
    { s.settle with
      cells := { s.settle.cells with
        cw := 0x0030#16 ||| pattern.setWidth 16
        dw := 0xFFFF0000#32 ||| (masked.setWidth 32 <<< 8) ||| data.setWidth 32 }
      shadow := Memory.write s.settle.shadow address.toNat data
      pins := { s.settle.pins with rw := false, cs1 := true, cs2 := true, dir := 0x3FFF#14, out := masked ++ data }
      trace := s.settle.trace ++ [.busWrite pattern masked data .gated] }
  | _ => s.settle

/-- The logical address of chip `i`'s volume register: 0x18, 0x38, 0x58, 0x78 (44_lifecycle R220). -/
def volumeRegister (i : Nat) : Byte := BitVec.ofNat 8 (0x20 * i + 0x18)

/-- The muted byte, high nibble kept (44_lifecycle R222). -/
def mutedVolume (v : Byte) : Byte := v &&& 0xF0#8

/-- The restored byte: kept, or the low nibble forced to 0xE when it is 0 (44_lifecycle R223). -/
def restoredVolume (v : Byte) : Byte := if v &&& 0x0F#8 = 0#8 then v ||| 0x0E#8 else v

/-- The effect of one completed turn of the mute pass (44_lifecycle R222). -/
def muteTurn (s : State) (i : Nat) : State :=
  blockingWrite (volumeRegister i) (mutedVolume (s.shadowAt (volumeRegister i)))
    { s with volCache := s.volCache.setIfInBounds i (s.shadowAt (volumeRegister i)) }

/-- The effect of one completed turn of the unmute pass (44_lifecycle R223). -/
def unmuteTurn (s : State) (i : Nat) : State :=
  blockingWrite (volumeRegister i) (restoredVolume (s.volCache[i]?.getD 0#8))
    { s with volCache := s.volCache.setIfInBounds i (restoredVolume (s.volCache[i]?.getD 0#8)) }

/-- The effect of the completed mute pass over all active chips. -/
def mutePass (s : State) : State := (List.range s.conf.numChips).foldl muteTurn s

/-- The effect of the completed unmute pass over all active chips. -/
def unmutePass (s : State) : State := (List.range s.conf.numChips).foldl unmuteTurn s

/-- The effect of a completed `dispatch(0x12, 0, 0)` (41_dispatcher R183). -/
def blockingPause (s : State) : State :=
  { s.settle with
    cells := { s.settle.cells with cw := 0x0036#16 }
    pins := { s.settle.pins with rw := false, cs1 := true, cs2 := true }
    trace := s.settle.trace ++ [.busCtl 0b110#3 0b110#3] }

/-! ### Read-back (20_memory R95) -/

/-- Two select values select the same sockets. -/
def sameSockets (sel sel' : Select) : Bool :=
  (selectsSocket1 sel == selectsSocket1 sel') && (selectsSocket2 sel == selectsSocket2 sel')

/-- The data byte of the latest write in a trace to a bus address of the sockets `sel` selects. -/
def latestWrite (sel : Select) (a6 : BusAddr) : List Event → Option Byte
  | [] => none
  | e :: es =>
    match latestWrite sel a6 es with
    | some d => some d
    | none =>
      match e with
      | .busWrite sel' a6' d _ => if sameSockets sel sel' && a6' == a6 then some d else none
      | _ => none

/-- The next read of `a6` with `sel` reads back what was last written there, if anything was (20_memory R95). -/
abbrev ReadsBack (s : State) (sel : Select) (a6 : BusAddr) : Prop :=
  ∀ d ∈ latestWrite sel a6 s.trace, s.chipByte sel a6 = d

end Sys2Proof.Machine
end

