-- ==== Sys2Proof/Certificates/Slice0/Obligations.lean ====
section
/-! DEFINITION. The statements for the provers. Each docstring names the rules of spec/ it comes from; where a statement
rests on a choice of the model it names the log entry. Throughout, `result` is the model's answer port (log 3), `draws` its
counter of free values (log 14), the agents run at the holds and waits of an operation (log 1), and an external clock with an
edge to come when an operation begins does not stop before its end (log 28). -/

open Sys2Proof Sys2Proof.Machine

/-! ### Requests and decoding -/

/-- 30_encoding R121, R141. The decoder gives every operation back from the word and from the record the encoder writes for
it, with every operand at every value. The places of the operand fields in the word are the model's choice (log 2). -/
def Obligations.DecodeEncodeAgree : Prop :=
  ∀ i : Instr, decode (encode i) = .op i ∧ decode (Request.ofWord (encodeWord i)) = .op i

/-- Log 2: a request record and its word determine each other. -/
def Obligations.RequestWordRoundTrip : Prop :=
  (∀ r : Request, Request.ofWord r.toWord = r) ∧ ∀ w : Nat, (Request.ofWord w).toWord = w

/-- 30_encoding R141: "No two rows match the same key." -/
def Obligations.TableRowsDisjoint : Prop :=
  ∀ (key : BitVec 16) (i j : Fin 19) (ri rj : OpRow), opTable[i.val]? = some ri → opTable[j.val]? = some rj →
    ri.selects key = true → rj.selects key = true → i = j

/-- 30_encoding R121, R125, R141. A request selects no operation exactly when its opsel is 0x10 or above (unknown), or its
opsel is 0 and its command byte is none of 0x10 to 0x13 (ignored). -/
def Obligations.RequestsThatSelectNothing : Prop :=
  ∀ r : Request,
    (decode r = .unknown ↔ 0x10 ≤ r.opsel.toNat) ∧
    (decode r = .ignored ↔ r.opsel = 0x00#8 ∧ (r.command.toNat < 0x10 ∨ 0x13 < r.command.toNat))

/-- 30_encoding R121, R124, R141: words written out from the encoding decode to the operations they stand for. The key in bits
15:0 is the spec's; that the operands stand in bits 16 and above, and where, is the model's choice (log 2). -/
def Obligations.WordsWrittenOutDecode : Prop :=
  decodeTableWord 16 0x0010 = some (.write 0x00#8 0x00#8) ∧
  decodeTableWord 32 0x0F180010 = some (.write 0x18#8 0x0F#8) ∧
  decodeTableWord 32 0x001B0011 = some (.read 0x1B#8 0x00#8) ∧
  decodeTableWord 48 0x0064FFFF0100 = some (.cycledDispatch 0xFF#8 0xFF#8 100#16) ∧
  decodeTableWord 56 0x01000000000600 = some (.clearRegisters 0x01#8) ∧
  decodeTableWord 16 0x0F00 = some .unmute ∧
  decodeTableWord 16 0x0020 = none ∧ decodeTableWord 16 0x1000 = none

/-- 00_scope R7, 30_encoding R141 (the request port of log 2): the step that takes a request runs the operation it decodes
to, on the state without that request, and adds nothing; so does the step after `withFetchWord`. -/
def Obligations.StepRunsDecodedInstruction : Prop :=
  (∀ (s : State) (r : Request) (rest : List Stimulus) (i : Instr),
    s.inbox = .request r :: rest → decode r = .op i → step s = exec i { s with inbox := rest }) ∧
  (∀ (s : State) (nbits w : Nat) (i : Instr),
    decodeTableWord nbits w = some i → step (s.withFetchWord nbits w) = exec i s)

/-- 30_encoding R123, 41_dispatcher R180. A `dispatch` whose sync nibble is not 0x1 changes nothing and returns 0, whatever
the rest of the request is and whether or not the bus is built. -/
def Obligations.MalformedCommandIsIgnored : Prop :=
  ∀ (r : Request) (s : State), r.opsel = 0x00#8 → r.command.extractLsb' 4 4 ≠ 0x1#4 →
    s.phase = .idle → s.halted = false → issue r s = .next { s with result := .byte 0x00#8 }

/-- 30_encoding R125, R121, 60_exceptions R275 (log 21 for the place of `unknown_operation` in the order of tests). A reserved
command code under a good sync nibble changes nothing and returns 0; an opsel of 0x10 or above is refused. -/
def Obligations.ReservedCodesSelectNothing : Prop :=
  ∀ (r : Request) (s : State), s.phase = .idle → s.halted = false →
    (r.opsel = 0x00#8 → r.command.extractLsb' 4 4 = 0x1#4 → 0x4 ≤ (r.command.extractLsb' 0 4).toNat →
      issue r s = .next { s with result := .byte 0x00#8 }) ∧
    (0x10 ≤ r.opsel.toNat → issue r s = .refused .unknownOperation)

/-! ### Words and routing -/

/-- 30_encoding R126 to R132, 43_router R215: the fields of the packed words, bit by bit. The bits of the base words are
0x0030, 0x0031 and 0x0038; a select pattern lands in bits 2:0. -/
def Obligations.PackedWordFields : Prop :=
  (∀ (p : Select) (k : Nat), k < 16 →
    (packControl cwBase p).getLsbD k = (p.getLsbD k || k == 4 || k == 5) ∧
    (packControl cwBase p ||| cwReadBit).getLsbD k = (p.getLsbD k || k == 0 || k == 4 || k == 5) ∧
    (packControl cwBaseCycled p).getLsbD k = (p.getLsbD k || k == 3 || k == 4 || k == 5)) ∧
  (∀ (dirmask : BitVec 16) (masked : BusAddr) (data : Byte),
    (packData dirmask masked data).extractLsb' 0 8 = data ∧
    (packData dirmask masked data).extractLsb' 8 6 = masked ∧
    (packData dirmask masked data).extractLsb' 14 2 = 0#2 ∧
    (packData dirmask masked data).extractLsb' 16 16 = dirmask)

/-- 43_router R210, R212, R213, R214, R216. ROUTE answers in every state, changes nothing but the answer, and answers the
disabled value, the masked address with the pattern, or a refusal. That it is accepted in a wait is log 16. -/
def Obligations.RouteAnswers : Prop :=
  ∀ (a : Byte) (s : State) (r : Region), s.conf.region[(a.extractLsb' 5 2).toNat]? = some r →
    (a.toNat < 0x80 → (r.pattern = 0b110#3 ∨ r.pattern = 0b111#3) →
      exec (.route a) s = .next { s with result := .routed .disabled }) ∧
    (a.toNat < 0x80 → r.pattern.getLsbD 0 = false → r.pattern ≠ 0b110#3 →
      exec (.route a) s = .next { s with result := .routed (.entry ((a &&& r.mask).extractLsb' 0 6) r.pattern) }) ∧
    (a.toNat < 0x80 → r.pattern.getLsbD 0 = true → r.pattern ≠ 0b111#3 →
      exec (.route a) s = .refused .reservedPattern) ∧
    (0x80 ≤ a.toNat → exec (.route a) s = .refused .addressOutOfRange)

/-- 43_router R217. The region of an address is `a[6:5] = floor(a / 32)` and every region holds 32 of the 128 addresses; the
masked address is `a & mask & 0x3F`; an enabled pattern has bit 0 clear, so the packed control word of a WRITE has the write
direction and that of a READ the read direction; the answer is `disabled` exactly when pattern bits 2:1 are set. -/
def Obligations.RoutePartitionsAddresses : Prop :=
  (∀ r : Fin 4, ((List.range 128).filter fun n => decide (regionIndex (BitVec.ofNat 8 n) = r)).length = 32) ∧
  ∀ (table : Vector Region 4) (a : Byte), a.toNat < 0x80 →
    (regionIndex a).val = a.toNat / 32 ∧
    (∀ m p, routeIn table a = .ok (.entry m p) →
      m.toNat = (a &&& table[regionIndex a].mask &&& 0x3F#8).toNat ∧ p = table[regionIndex a].pattern ∧
        p.getLsbD 0 = false ∧ cwIsRead (packControl cwBase p) = false ∧
        cwIsRead (packControl cwBase p ||| cwReadBit) = true) ∧
    (routeIn table a = .ok .disabled ↔ table[regionIndex a].pattern.extractLsb' 1 2 = 0b11#2)

/-! ### The dispatcher -/

/-- 41_dispatcher R181, 20_memory R80. WRITE to an enabled region, with an edge to come, answers a next state: what was in
flight has run; `CW`, `DW`, the shadow byte, the pins after the release phase and one gated write event are as
`blockingWrite` spells them out; the result is 0; nothing else changes. -/
def Obligations.WriteCompletes : Prop :=
  ∀ (a d : Byte) (s : State) (m : BusAddr) (p : Select), ControllerInv s → s.Ready → s.edgeAvailable = true →
    routeIn s.conf.region a = .ok (.entry m p) →
    exec (.write a d) s = .next { blockingWrite a d s with result := .byte 0x00#8 } ∧
    blockingWrite a d s = { s.settle with
      cells := { s.settle.cells with
        cw := 0x0030#16 ||| p.setWidth 16
        dw := 0xFFFF0000#32 ||| (m.setWidth 32 <<< 8) ||| d.setWidth 32 }
      shadow := Memory.write s.settle.shadow a.toNat d
      pins := { s.settle.pins with rw := false, cs1 := true, cs2 := true, dir := 0x3FFF#14, out := m ++ d }
      trace := s.settle.trace ++ [.busWrite p m d .gated] }

/-- 41_dispatcher R182, 20_memory R81, R85. READ of an enabled region, with an edge to come, answers a next state: the byte
the chips answer is the top byte of `RR`, the new shadow byte and the result; the low 24 bits of `RR` are some value (log 14);
the answer is taken off the queue of the environment's coming answers, which is the model's own device (log 5). -/
def Obligations.ReadCompletes : Prop :=
  ∀ (a d : Byte) (s : State) (m : BusAddr) (p : Select), ControllerInv s → s.Ready → s.edgeAvailable = true →
    routeIn s.conf.region a = .ok (.entry m p) →
    ∃ low : BitVec 24, exec (.read a d) s = .next { s.settle with
      cells := { s.settle.cells with
        cw := 0x0031#16 ||| p.setWidth 16
        dw := 0xFF000000#32 ||| (m.setWidth 32 <<< 8) ||| d.setWidth 32
        rrTop := s.settle.chipByte (p ||| 0b001#3) m
        rrLow := low }
      shadow := Memory.write s.settle.shadow a.toNat (s.settle.chipByte (p ||| 0b001#3) m)
      pins := { s.settle.pins with rw := false, cs1 := true, cs2 := true, dir := 0x3F00#14, out := m ++ d }
      trace := s.settle.trace ++ [.busRead (p ||| 0b001#3) m (s.settle.chipByte (p ||| 0b001#3) m)]
      env := { s.settle.env with chipAnswers := s.settle.env.chipAnswers.tail }
      draws := s.settle.draws + 1
      result := .byte (s.settle.chipByte (p ||| 0b001#3) m) }

/-- 41_dispatcher R183, 20_memory R82. PAUSE answers a next state whatever its operands and the clock are: `CW = 0x0036`, the
control lines idle, one control-only event; data word, data and address pins, shadow memory and `paused` as they were. -/
def Obligations.PauseCompletes : Prop :=
  ∀ (a d : Byte) (s : State), ControllerInv s → s.Ready →
    exec (.pause a d) s = .next { s.settle with
      cells := { s.settle.cells with cw := 0x0036#16 }
      pins := { s.settle.pins with rw := false, cs1 := true, cs2 := true }
      trace := s.settle.trace ++ [.busCtl 0b110#3 0b110#3]
      result := .byte 0x00#8 }

/-- 41_dispatcher R184, 20_memory R83, R97. CLEAR_BUS returns with its data word in flight and result 0; when the agents have
run, all fourteen data and address pins are inputs and the event is in the trace. -/
def Obligations.ClearBusReturnsInFlight : Prop :=
  ∀ (a d : Byte) (s : State), ControllerInv s → s.Ready →
    ∃ t, exec (.clearBus a d) s = .next t ∧
      t = { s.settle with
        cells := { s.settle.cells with dw := 0x00000000#32 }
        link := { Link.claimedIdle with txData := ⟨true, true⟩, pendData := some 0x00000000#32 }
        result := .byte 0x00#8 } ∧
      t.settle = { t with
        link := Link.claimedIdle
        pins := { t.pins with dir := 0#14, out := 0#14 }
        trace := t.trace ++ [.busData 0x0000#16 0x0000#16] }

/-- 60_exceptions R272. In a disabled region WRITE and READ are inert with result 0; a timed write drops its bus write,
leaves `CW` and `DW`, and still counts its delay and writes its shadow byte (with the spec's default
`CYC_SHADOW_ON_DISABLED`). What an earlier operation left in flight has run before (log 26); with nothing in flight that
changes nothing. That a timed write answers `none` is log 3. -/
def Obligations.DisabledRegionIsInert : Prop :=
  ∀ (a d : Byte) (n : DelayWord) (s : State), ControllerInv s → s.Ready → routeIn s.conf.region a = .ok .disabled →
    (s.link.drained = true → s.settle = s) ∧
    exec (.write a d) s = .next { s.settle with result := .byte 0x00#8 } ∧
    exec (.read a d) s = .next { s.settle with result := .byte 0x00#8 } ∧
    (s.plat.cycShadowOnDisabled = true →
      exec (.cycledDispatch a d 0#16) s = .next { s.settle with
        shadow := Memory.write s.settle.shadow a.toNat d, result := .none } ∧
      (1 ≤ n.toNat → ∃ t, exec (.cycledDispatch a d n) s = .next t ∧
        t = { s.settle with
          cells := { s.settle.cells with dlw := n }
          shadow := Memory.write s.settle.shadow a.toNat d
          link := { Link.claimedIdle with txDly := ⟨true, true⟩, pendDly := some n }
          result := .none } ∧
        t.settle = { t with link := Link.claimedIdle, trace := t.trace ++ [.delay n] }))

/-- 42_cycled_dispatch R201, the switch of 00_scope R6. With `CYC_SHADOW_ON_DISABLED` false a timed write to a disabled region
leaves shadow memory as it is. -/
def Obligations.CycledDisabledWithoutShadow : Prop :=
  ∀ (a d : Byte) (n : DelayWord) (s : State), ControllerInv s → s.Ready →
    routeIn s.conf.region a = .ok .disabled → s.plat.cycShadowOnDisabled = false →
    ∃ t, exec (.cycledDispatch a d n) s = .next t ∧ t.shadow = s.shadow ∧
      t.settle.trace = s.settle.trace ++ (if n = 0#16 then [] else [.delay n])

/-- 20_memory R77, 41_dispatcher R180: whatever is in flight before, the hold ends with every channel idle; when nothing is in
flight the agents change nothing. -/
def Obligations.HoldDrainsTheLink : Prop :=
  ∀ s : State, ControllerInv s → s.Ready →
    hold s = some s.settle ∧ s.settle.link = Link.claimedIdle ∧ (s.link.drained = true → s.settle = s)

/-- 42_cycled_dispatch R200, R201, R205, 20_memory R80, R86. A timed write to an enabled region returns at once with the
shadow byte written and its words and delay in flight; the agents then add the delay (when there is one) and one ungated
write, in this order, and leave `RW = CS1 = CS2 = 1`. No clock edge is needed. That it answers `none` is
log 3. -/
def Obligations.CycledWriteCompletes : Prop :=
  ∀ (a d : Byte) (n : DelayWord) (s : State) (m : BusAddr) (p : Select), ControllerInv s → s.Ready →
    routeIn s.conf.region a = .ok (.entry m p) →
    ∃ t, exec (.cycledDispatch a d n) s = .next t ∧
      t = { s.settle with
        cells := { s.settle.cells with
          cw := 0x0038#16 ||| p.setWidth 16
          dw := 0xFFFF0000#32 ||| (m.setWidth 32 <<< 8) ||| d.setWidth 32
          dlw := if n = 0#16 then s.settle.cells.dlw else n }
        shadow := Memory.write s.settle.shadow a.toNat d
        link := { Link.claimedIdle with
          txCtrl := ⟨true, true⟩, pendCtrl := some (0x0038#16 ||| p.setWidth 16)
          txData := ⟨true, true⟩, pendData := some (0xFFFF0000#32 ||| (m.setWidth 32 <<< 8) ||| d.setWidth 32)
          txDly := ⟨true, n != 0#16⟩, pendDly := if n = 0#16 then none else some n }
        result := .none } ∧
      t.settle = { t with
        link := Link.claimedIdle
        pins := { t.pins with rw := true, cs1 := true, cs2 := true, dir := 0x3FFF#14, out := m ++ d }
        trace := t.trace ++ (if n = 0#16 then [] else [.delay n]) ++ [.busWrite p m d .ungated] }

/-- 42_cycled_dispatch R202: the sentinel pair with at least one cycle blocks until the delay is over and changes `DLW` and the
trace only; with no cycle it is refused. -/
def Obligations.SentinelOnlyWaits : Prop :=
  ∀ (n : DelayWord) (s : State), ControllerInv s → s.Ready →
    (1 ≤ n.toNat → exec (.cycledDispatch 0xFF#8 0xFF#8 n) s = .next { s.settle with
      cells := { s.settle.cells with dlw := n }
      trace := s.settle.trace ++ [.delay n]
      result := .none }) ∧
    exec (.cycledDispatch 0xFF#8 0xFF#8 0#16) s = .refused .addressOutOfRange

/-- 60_exceptions R274. Without an edge to come WRITE and READ stop in their wait: the words stay pending and the gates armed,
WRITE has written its shadow byte, READ has not, the trace has no event of theirs, and with nothing arriving the state stays as
it is. What is left of the operation stands in the model's field `todo` (log 7). -/
def Obligations.GatedTransferSticks : Prop :=
  ∀ (a d : Byte) (s : State) (m : BusAddr) (p : Select), ControllerInv s → s.Ready → s.edgeAvailable = false →
    s.inbox = [] → routeIn s.conf.region a = .ok (.entry m p) →
    (∃ t, exec (.write a d) s = .next t ∧ step t = .next t ∧
      t = { s.settle with
        cells := { s.settle.cells with
          cw := 0x0030#16 ||| p.setWidth 16
          dw := 0xFFFF0000#32 ||| (m.setWidth 32 <<< 8) ||| d.setWidth 32 }
        shadow := Memory.write s.settle.shadow a.toNat d
        phase := .waitCtrl
        link := { Link.claimedIdle with
          txCtrl := ⟨true, true⟩, pendCtrl := some (0x0030#16 ||| p.setWidth 16)
          txData := ⟨true, true⟩, pendData := some (0xFFFF0000#32 ||| (m.setWidth 32 <<< 8) ||| d.setWidth 32)
          gateCtrl := .armed, gateData := .armed }
        todo := [.await .ctrl, .answer (.byte 0x00#8)] }) ∧
    (∃ t, exec (.read a d) s = .next t ∧ step t = .next t ∧
      t = { s.settle with
        cells := { s.settle.cells with
          cw := 0x0031#16 ||| p.setWidth 16
          dw := 0xFF000000#32 ||| (m.setWidth 32 <<< 8) ||| d.setWidth 32 }
        phase := .waitRx
        link := { Link.claimedIdle with
          txCtrl := ⟨true, true⟩, pendCtrl := some (0x0031#16 ||| p.setWidth 16)
          txData := ⟨true, true⟩, pendData := some (0xFF000000#32 ||| (m.setWidth 32 <<< 8) ||| d.setWidth 32)
          rxData := ⟨true, true⟩
          gateCtrl := .armed, gateData := .armed }
        todo := [.await .rx, .latchRead a] })

/-- 60_exceptions R274, 70_reset_and_hazards R308. `stuck` is terminal: after any number of steps from a stuck wait
everything is as it was, phase, words in flight, gates, cells, shadow memory, pins and trace among them, and no edge is to come.
What arrives is taken off the inbox, the environment's other answers may change, and the two pure operations still leave their
answer (log 16); that a dead external clock stays dead is how the model reads `PhiAlive` (log 7). -/
def Obligations.StuckIsForEver : Prop :=
  ∀ (n : Nat) (s t : State), ControllerInv s → s.phase.isWait = true → Sys2Proof.core.run n s = .next t →
    t = { s with inbox := t.inbox, env := t.env, result := t.result } ∧ t.edgeAvailable = false

/-- 20_memory R95. When the next read of the address reads back what was last written there for the sockets selected, `write`
followed by `read` returns the byte written; under any answer shadow memory holds the byte written, then the byte read. That an
edge still comes for the read when one was to come before the write is the model's choice: the clock stops in neither operation,
nor between the two with no `world` stimulus there (log 28). -/
def Obligations.ReadBackRoundTrip : Prop :=
  ∀ (a v : Byte) (s : State) (m : BusAddr) (p : Select), ControllerInv s → s.Ready → s.edgeAvailable = true →
    routeIn s.conf.region a = .ok (.entry m p) →
    ∃ t u w, exec (.write a v) s = .next t ∧ t.shadowAt a = v ∧
      exec (.read a 0x00#8) t = .next u ∧ u.result = .byte w ∧ u.shadowAt a = w ∧
      (ReadsBack t (p ||| 0b001#3) m → w = v)

/-! ### Refusals -/

/-- 60_exceptions R275, R278, 43_router R210, 45_clock R240 (log 16). While the dispatcher is in a wait, every operation but the
two pure ones is refused as a concurrent invocation; in phase HALTED every one of them is refused as halted. -/
def Obligations.BusyAndHaltedRefuse : Prop :=
  ∀ (i : Instr) (s : State), (∀ a, i ≠ .route a) → (∀ r, i ≠ .computeClockDivider r) →
    (s.phase.isWait = true → exec i s = .refused .concurrentInvocation) ∧
    (s.phase = .halted → exec i s = .refused .halted)

/-- 40_bringup R164, R165, 45_clock R245, 60_exceptions R275. On an idle block without a bus, every operation that uses the bus
is refused; on one with a bus, SETUP_BUS and DETECT_EXTERNAL_CLOCK are. -/
def Obligations.BuildStateRefuses : Prop :=
  ∀ (i : Instr) (s : State), s.phase = .idle → s.halted = false →
    (s.busBuilt = false → i ≠ .initPins → i ≠ .hardReset → i ≠ .setupBus → i ≠ .detectExternalClock →
      (∀ a, i ≠ .route a) → (∀ r, i ≠ .computeClockDivider r) → exec i s = .refused .busNotBuilt) ∧
    (s.busBuilt = true → (i = .setupBus ∨ i = .detectExternalClock) → exec i s = .refused .alreadyBuilt)

/-- 60_exceptions R275, 43_router R212, R216, 44_lifecycle R228, 45_clock R241, 42_cycled_dispatch R204. On a ready block the
operands outside their range are refused by name. -/
def Obligations.OperandsOutOfRangeRefused : Prop :=
  ∀ (a d : Byte) (n : DelayWord) (s : State), ControllerInv s → s.Ready →
    (0x80 ≤ a.toNat → exec (.write a d) s = .refused .addressOutOfRange ∧
      exec (.read a d) s = .refused .addressOutOfRange ∧
      (¬ (a = 0xFF#8 ∧ d = 0xFF#8 ∧ n ≠ 0#16) → exec (.cycledDispatch a d n) s = .refused .addressOutOfRange)) ∧
    (routeIn s.conf.region a = .error .reservedPattern → exec (.write a d) s = .refused .reservedPattern ∧
      exec (.read a d) s = .refused .reservedPattern ∧ exec (.cycledDispatch a d n) s = .refused .reservedPattern) ∧
    (4 ≤ d.toNat → exec (.clearRegisters d) s = .refused .chipOutOfRange) ∧
    exec (.computeClockDivider 0) s = .refused .zeroRate

/-! ### Chip lifecycle -/

/-- 44_lifecycle R222. MUTE answers the state after one turn per active chip, in ascending order; a turn captures the shadow byte
into the volume cache and writes it with its low nibble cleared. The clock does not stop between turns (log 28). -/
def Obligations.MuteCompletes : Prop :=
  ∀ s : State, ControllerInv s → s.Ready → s.edgeAvailable = true → s.conf.numChips ≤ 4 → NoReservedPatterns s.conf →
    exec .mute s = .next { mutePass s with result := .none }

/-- 44_lifecycle R223. UNMUTE answers the state after one turn per active chip, in ascending order; a turn writes back the
cached byte, its low nibble forced to 0xE when it is zero, and keeps it in the cache. The clock does not stop between turns (log
28). -/
def Obligations.UnmuteCompletes : Prop :=
  ∀ s : State, ControllerInv s → s.Ready → s.edgeAvailable = true → s.conf.numChips ≤ 4 → NoReservedPatterns s.conf →
    exec .unmute s = .next { unmutePass s with result := .none }

/-- 44_lifecycle R224, 20_memory R89 (3). When what was in flight has run, ENABLE releases the chips' reset, runs the unmute pass
and clears `paused`. The clock does not stop during the pass (log 28). -/
def Obligations.EnableCompletes : Prop :=
  ∀ s : State, ControllerInv s → s.Ready → s.edgeAvailable = true → s.conf.numChips ≤ 4 → NoReservedPatterns s.conf →
    exec .enable s = .next { unmutePass { s.settle with
      pins := { s.settle.pins with res := .deasserted }, trace := s.settle.trace ++ [.resDeassert] } with
        paused := false, result := .none }

/-- 44_lifecycle R225, 20_memory R89 (3). When what was in flight has run, DISABLE runs the mute pass, drives both chip selects
inactive and asserts the chips' reset. The clock does not stop during the pass (log 28). -/
def Obligations.DisableCompletes : Prop :=
  ∀ s : State, ControllerInv s → s.Ready → s.edgeAvailable = true → s.conf.numChips ≤ 4 → NoReservedPatterns s.conf →
    exec .disable s = .next { mutePass s.settle with
      pins := { (mutePass s.settle).pins with cs1 := true, cs2 := true, res := .asserted }
      trace := (mutePass s.settle).trace ++ [.csRelease, .resAssert]
      result := .none }

/-- 44_lifecycle R226. PAUSE_TOGGLE runs the mute pass (when `paused` was false) or the unmute pass, then a PAUSE command, and
flips `paused`. The clock does not stop during the pass (log 28). -/
def Obligations.PauseToggleCompletes : Prop :=
  ∀ s : State, ControllerInv s → s.Ready → s.edgeAvailable = true → s.conf.numChips ≤ 4 → NoReservedPatterns s.conf →
    exec .pauseToggle s = .next { blockingPause (if s.paused then unmutePass s else mutePass s) with
      paused := !s.paused, result := .none }

/-- 44_lifecycle R227, 20_memory R89 (3). When what was in flight has run, HARD_RESET pulses `RES`, with a hold when some chip is
real, and changes nothing else; it needs no bus and no clock. -/
def Obligations.HardResetCompletes : Prop :=
  ∀ s : State, ControllerInv s → s.phase = .idle → s.halted = false →
    (s.link.drained = true → s.settle = s) ∧
    exec .hardReset s = .next { s.settle with
      pins := { s.settle.pins with res := .deasserted }
      trace := s.settle.trace ++
        (if true ∈ s.conf.chipReal.toList then [.resAssert, .resHold s.plat.resetHoldUs, .resDeassert]
         else [.resAssert, .resDeassert])
      result := .none }

/-- 44_lifecycle R228. CLEAR_REGISTERS writes zero to every entry of the register table but the last four, in order, whether or
not the chip is active. The clock does not stop between the writes (log 28). -/
def Obligations.ClearRegistersCompletes : Prop :=
  ∀ (c : Byte) (s : State), ControllerInv s → s.Ready → s.edgeAvailable = true → c.toNat < 4 → NoReservedPatterns s.conf →
    exec (.clearRegisters c) s = .next
      { (s.plat.regTable.take (s.plat.regTable.length - 4)).foldl
          (fun t off => blockingWrite (BitVec.ofNat 8 (0x20 * c.toNat + off.toNat)) 0x00#8 t) s with result := .none }

/-- 44_lifecycle R228, 10_state R42. With the spec's default register table and an enabled region, CLEAR_REGISTERS leaves zero in
the shadow bytes of offsets 0x00 to 0x18, every other shadow byte and the volume cache as they were, and adds, after what was in
flight, the 25 gated write events of value zero to the masked addresses of those offsets. The clock does not stop between them
(log 28). -/
def Obligations.ClearRegistersZeroesShadow : Prop :=
  ∀ (c : Byte) (s t : State) (r : Region), ControllerInv s → s.Ready → s.edgeAvailable = true → c.toNat < 4 →
    NoReservedPatterns s.conf → s.plat.regTable = defaultRegTable →
    s.conf.region[c.toNat]? = some r → r.pattern ≠ 0b110#3 → r.pattern ≠ 0b111#3 →
    exec (.clearRegisters c) s = .next t →
    (∀ a : Byte, a.toNat < 0x80 → t.shadowAt a =
      if 0x20 * c.toNat ≤ a.toNat ∧ a.toNat ≤ 0x20 * c.toNat + 0x18 then 0x00#8 else s.shadowAt a) ∧
    t.volCache = s.volCache ∧
    t.trace = s.settle.trace ++ (List.range 25).map fun k =>
      .busWrite r.pattern ((BitVec.ofNat 8 (0x20 * c.toNat + k) &&& r.mask).extractLsb' 0 6) 0x00#8 .gated

/-- 44_lifecycle R222, R214. After the mute pass the cache of every active chip holds the shadow byte from before; the shadow byte
of one in an enabled region has its low nibble cleared; every other shadow byte and cache entry is as before. -/
def Obligations.MutePassEffect : Prop :=
  ∀ s : State, ControllerInv s → s.Ready → s.conf.numChips ≤ 4 → NoReservedPatterns s.conf →
    (∀ i, i < 4 → (mutePass s).volCache[i]? =
      if i < s.conf.numChips then some (s.shadowAt (volumeRegister i)) else s.volCache[i]?) ∧
    (∀ a : Byte, a.toNat < 0x80 → (mutePass s).shadowAt a =
      if a.toNat % 32 = 0x18 ∧ a.toNat / 32 < s.conf.numChips ∧ routeIn s.conf.region a ≠ .ok .disabled
      then s.shadowAt a &&& 0xF0#8 else s.shadowAt a)

/-- 44_lifecycle R223, R214. After the unmute pass the cache of every active chip holds its byte with a zero low nibble forced to
0xE, and so does the shadow byte of one in an enabled region; every other shadow byte and cache entry is as before. -/
def Obligations.UnmutePassEffect : Prop :=
  ∀ s : State, ControllerInv s → s.Ready → s.conf.numChips ≤ 4 → NoReservedPatterns s.conf →
    (∀ i (v : Byte), s.volCache[i]? = some v → (unmutePass s).volCache[i]? =
      some (if i < s.conf.numChips ∧ v &&& 0x0F#8 = 0#8 then v ||| 0x0E#8 else v)) ∧
    (∀ (a v : Byte), a.toNat < 0x80 → s.volCache[a.toNat / 32]? = some v → (unmutePass s).shadowAt a =
      if a.toNat % 32 = 0x18 ∧ a.toNat / 32 < s.conf.numChips ∧ routeIn s.conf.region a ≠ .ok .disabled
      then (if v &&& 0x0F#8 = 0#8 then v ||| 0x0E#8 else v) else s.shadowAt a)

/-- 44_lifecycle R229 (a). PAUSE_TOGGLE twice brings `paused` back. From `paused = false` every active volume, cache and shadow,
ends as it was, or with its zero low nibble forced to 0xE; from `paused = true` the cache ends so, and the shadow byte muted. The
clock stops inside neither call (log 28). -/
def Obligations.PauseToggleTwiceRestores : Prop :=
  ∀ s : State, ControllerInv s → s.Ready → s.edgeAvailable = true → s.conf.numChips ≤ 4 → NoReservedPatterns s.conf →
    (∀ i, i < s.conf.numChips → routeIn s.conf.region (volumeRegister i) ≠ .ok .disabled) →
    ∃ t u, exec .pauseToggle s = .next t ∧ exec .pauseToggle t = .next u ∧
      t.paused = !s.paused ∧ u.paused = s.paused ∧
      (s.paused = false → ∀ i (v : Byte), i < s.conf.numChips → s.shadowAt (volumeRegister i) = v →
        u.volCache[i]? = some (if v &&& 0x0F#8 = 0#8 then v ||| 0x0E#8 else v) ∧
        u.shadowAt (volumeRegister i) = (if v &&& 0x0F#8 = 0#8 then v ||| 0x0E#8 else v)) ∧
      (s.paused = true → ∀ i (v : Byte), i < s.conf.numChips → s.volCache[i]? = some v →
        u.volCache[i]? = some (if v &&& 0x0F#8 = 0#8 then v ||| 0x0E#8 else v) ∧
        u.shadowAt (volumeRegister i) = v &&& 0xF0#8)

/-- 44_lifecycle R229 (b). DISABLE caches the volume of every active chip; ENABLE then restores exactly that byte, or forces a zero
low nibble to 0xE; the label is Disabled between the two and Enabled after (10_state R28). The clock stops inside neither call
(log 28). -/
def Obligations.DisableEnableRestoresVolume : Prop :=
  ∀ s : State, ControllerInv s → s.Ready → s.edgeAvailable = true → s.conf.numChips ≤ 4 → NoReservedPatterns s.conf →
    ∃ t u, exec .disable s = .next t ∧ exec .enable t = .next u ∧
      t.lifecycle = .disabled ∧ u.lifecycle = .enabled ∧ u.paused = false ∧
      ∀ i (v : Byte), i < s.conf.numChips → s.shadowAt (volumeRegister i) = v →
        routeIn s.conf.region (volumeRegister i) ≠ .ok .disabled →
        t.volCache[i]? = some v ∧ t.shadowAt (volumeRegister i) = v &&& 0xF0#8 ∧
        u.shadowAt (volumeRegister i) = (if v &&& 0x0F#8 = 0#8 then v ||| 0x0E#8 else v)

/-- 44_lifecycle R226, R230, 60_exceptions R274. Without an edge to come, PAUSE_TOGGLE sticks in the first mute write: the first
chip's byte is captured and its shadow byte muted, `paused` is not flipped, and no event is added. -/
def Obligations.StuckPauseToggleDoesNotFlip : Prop :=
  ∀ s : State, ControllerInv s → s.Ready → s.edgeAvailable = false → s.paused = false → 1 ≤ s.conf.numChips →
    (∃ m p, routeIn s.conf.region 0x18#8 = .ok (.entry m p)) →
    ∃ t, exec .pauseToggle s = .next t ∧ t.phase = .waitCtrl ∧ t.paused = false ∧
      t.volCache[0]? = some (s.shadowAt 0x18#8) ∧ t.shadowAt 0x18#8 = s.shadowAt 0x18#8 &&& 0xF0#8 ∧
      t.trace = s.settle.trace

/-! ### Bring-up, clock, resynchronisation -/

/-- 40_bringup R160, 20_memory R89 (3). When what was in flight has run, INIT_PINS leaves the control lines idle outputs, the data
and address pins inputs, `RES` deasserted, and changes nothing else. -/
def Obligations.InitPinsCompletes : Prop :=
  ∀ s : State, ControllerInv s → s.phase = .idle → s.halted = false →
    (s.link.drained = true → s.settle = s) ∧
    exec .initPins s = .next { s.settle with
      pins := { s.settle.pins with
        res := .deasserted, rw := false, cs1 := true, cs2 := true, ctlOutputs := true, dir := 0#14 }
      trace := s.settle.trace ++ [.pinsInit]
      result := .none }

/-- 40_bringup R161. SETUP_BUS with four free slots and channels claims, loads, configures and starts everything; slots and
offsets are some values (log 8); the dividers are rounded as the platform rounds them (log 24). -/
def Obligations.SetupBusBuilds : Prop :=
  ∀ s : State, s.phase = .idle → s.halted = false → s.busBuilt = false → 0 < s.conf.clockRate →
    4 ≤ s.env.freeSeq → 4 ≤ s.env.freeCh →
    ∃ q : SequencerSet,
      (∀ x ∈ [q.ctrl, q.data, q.clk, q.dly], x.claimed = true ∧ x.loaded = true ∧ x.running = true) ∧
      (∀ x ∈ [q.ctrl, q.data, q.dly], x.div = busDivider s.plat s.conf.clockRate) ∧
      q.clk.div = clkDivider s.plat s.conf.clockRate ∧
      exec .setupBus s = .next { s with
        divBus := busDivider s.plat s.conf.clockRate
        divClk := clkDivider s.plat s.conf.clockRate
        seqs := q
        link := Link.claimedIdle
        phaseAligned := false
        busBuilt := true
        trace := s.trace ++
          [.busBuilt (busDivider s.plat s.conf.clockRate) (clkDivider s.plat s.conf.clockRate)]
        draws := s.draws + 1
        result := .none }

/-- 40_bringup R161, R162, 60_exceptions R273, 45_clock R241. Too few slots, or else too few channels, is fatal: `halted`, phase
HALTED, one Fatal event, the bus not built; with too few slots no sequencer is claimed, with too few channels all four stay
claimed and loaded; a clock rate of zero is refused. -/
def Obligations.SetupBusFails : Prop :=
  ∀ s : State, s.phase = .idle → s.halted = false → s.busBuilt = false →
    (s.conf.clockRate = 0 → exec .setupBus s = .refused .zeroRate) ∧
    (0 < s.conf.clockRate → s.env.freeSeq < 4 → ∃ t, exec .setupBus s = .next t ∧
      t.halted = true ∧ t.phase = .halted ∧ t.busBuilt = false ∧ t.seqs = s.seqs ∧ t.link = s.link ∧
      t.pins = s.pins ∧ t.shadow = s.shadow ∧ t.cells = s.cells ∧ t.trace = s.trace ++ [.fatal .sequencer]) ∧
    (0 < s.conf.clockRate → 4 ≤ s.env.freeSeq → s.env.freeCh < 4 → ∃ t, exec .setupBus s = .next t ∧
      t.halted = true ∧ t.phase = .halted ∧ t.busBuilt = false ∧
      (∀ x ∈ [t.seqs.ctrl, t.seqs.data, t.seqs.clk, t.seqs.dly], x.claimed = true ∧ x.loaded = true) ∧
      t.link = s.link ∧ t.pins = s.pins ∧ t.shadow = s.shadow ∧ t.cells = s.cells ∧
      t.trace = s.trace ++ [.fatal .channel])

/-- 46_resync R255, R256. REBUILD_BUS drops whatever is in flight, recomputes the dividers from the current clock rate, claims and
starts everything again and aligns the dividers; cells, shadow memory, volume cache, `paused`, `clk_external` and all pins
survive. -/
def Obligations.RebuildBusCompletes : Prop :=
  ∀ s : State, s.Ready → 0 < s.conf.clockRate → 4 ≤ s.env.freeSeq → 4 ≤ s.env.freeCh →
    ∃ q : SequencerSet,
      (∀ x ∈ [q.ctrl, q.data, q.clk, q.dly], x.claimed = true ∧ x.loaded = true ∧ x.running = true) ∧
      (∀ x ∈ [q.ctrl, q.data, q.dly], x.div = busDivider s.plat s.conf.clockRate) ∧
      q.clk.div = clkDivider s.plat s.conf.clockRate ∧
      exec .rebuildBus s = .next { s with
        divBus := busDivider s.plat s.conf.clockRate
        divClk := clkDivider s.plat s.conf.clockRate
        seqs := q
        link := Link.claimedIdle
        phaseAligned := true
        trace := s.trace ++ [.busTornDown,
          .busBuilt (busDivider s.plat s.conf.clockRate) (clkDivider s.plat s.conf.clockRate), .phaseSync]
        draws := s.draws + 1
        result := .none }

/-- 46_resync R255, 60_exceptions R273. A rebuild that finds too few slots or channels ends halted with the bus torn down, and
phase-sync does not run. With too few slots every sequencer stays as the teardown left it, unclaimed, unloaded and stopped; with
too few channels all four are claimed and loaded again and none runs. -/
def Obligations.RebuildBusFails : Prop :=
  ∀ s : State, s.Ready → 0 < s.conf.clockRate → (s.env.freeSeq < 4 ∨ s.env.freeCh < 4) →
    ∃ t, exec .rebuildBus s = .next t ∧ t.halted = true ∧ t.phase = .halted ∧ t.busBuilt = false ∧
      t.phaseAligned = false ∧ t.link = Link.atReset ∧ t.shadow = s.shadow ∧ t.pins = s.pins ∧
      t.trace = s.trace ++ [.busTornDown, .fatal (if s.env.freeSeq < 4 then .sequencer else .channel)] ∧
      (s.env.freeSeq < 4 → ∀ x ∈ [t.seqs.ctrl, t.seqs.data, t.seqs.clk, t.seqs.dly],
        x.claimed = false ∧ x.loaded = false ∧ x.running = false) ∧
      (4 ≤ s.env.freeSeq → ∀ x ∈ [t.seqs.ctrl, t.seqs.data, t.seqs.clk, t.seqs.dly],
        x.claimed = true ∧ x.loaded = true ∧ x.running = false)

/-- 46_resync R257, 20_memory R89 (3). PHASE_SYNC sets `phase_aligned` and adds its event, when what was in flight has run; both
variants of the restart end in the same state. -/
def Obligations.PhaseSyncCompletes : Prop :=
  ∀ s : State, ControllerInv s → s.Ready →
    exec .phaseSync s = .next { s.settle with
      phaseAligned := true, trace := s.settle.trace ++ [.phaseSync], result := .none }

/-- 45_clock R240, R241. COMPUTE_CLOCK_DIVIDER answers, for every positive rate, the two dividers as the platform rounds them, and
changes nothing but the answer; with the spec's default `DIV_QUANT`, the identity, they are the exact quotients, the second 32
times the first. That it is accepted in every state includes a wait (log 16). -/
def Obligations.ComputeClockDividerAnswers : Prop :=
  ∀ (rate : Nat) (s : State), 0 < rate →
    exec (.computeClockDivider rate) s = .next { s with
      result := .dividers (divQuant s.plat.divQuant (s.plat.sysClkHz / (rate * 32) / 2))
        (divQuant s.plat.divQuant (s.plat.sysClkHz / (rate * 2))) } ∧
    (s.plat.divQuant = .identity →
      exec (.computeClockDivider rate) s = .next { s with
        result := .dividers (s.plat.sysClkHz / (64 * rate)) (s.plat.sysClkHz / (2 * rate)) } ∧
      s.plat.sysClkHz / (2 * rate) = 32 * (s.plat.sysClkHz / (64 * rate)))

/-- 45_clock R242: with exact rationals both results are strictly decreasing in the rate, as `SYS_CLK_HZ / (64 * r)` and
`SYS_CLK_HZ / (2 * r)` are; with a rounding function in the place of `DIV_QUANT`, one that keeps the order of what it rounds, they
are non-increasing. -/
def Obligations.DividersStrictlyDecrease : Prop :=
  ∀ (p : Platform) (r1 r2 : Nat), 0 < p.sysClkHz → 0 < r1 → r1 < r2 →
    ∃ b1 c1 b2 c2, computeDividers p r1 = .ok (b1, c1) ∧ computeDividers p r2 = .ok (b2, c2) ∧
      (p.divQuant = .identity →
        b1 = p.sysClkHz / (64 * r1) ∧ c1 = p.sysClkHz / (2 * r1) ∧
        b2 = p.sysClkHz / (64 * r2) ∧ c2 = p.sysClkHz / (2 * r2) ∧ b2 < b1 ∧ c2 < c1) ∧
      ((∀ x y, x ≤ y → divQuant p.divQuant x ≤ divQuant p.divQuant y) → b2 ≤ b1 ∧ c2 ≤ c1)

/-- 45_clock R244, R245. DETECT_EXTERNAL_CLOCK, before the bus is built, answers "external" exactly when one of twenty samples
reads 1, and changes `clk_external` and the trace; that it takes its twenty samples off a queue of the environment's coming samples
is the model's choice (log 6). -/
def Obligations.DetectExternalClockAnswers : Prop :=
  ∀ s : State, s.phase = .idle → s.halted = false → s.busBuilt = false →
    ∃ b : Bool, (b = true ↔ ∃ k, k < 20 ∧ s.clkSampleAt k = true) ∧
      exec .detectExternalClock s = .next { s with
        clkExternal := b
        env := { s.env with clkSamples := s.env.clkSamples.drop 20 }
        trace := s.trace ++ [.clockDetect b]
        draws := s.draws + 1
        result := .clock b }

/-- 70_reset_and_hazards R300, 10_state R50. The bring-up sequence from a state without a bus completes and leaves the idle control
state, everything claimed and running, nothing in flight, and its four events; cells, shadow memory and volume cache are as
before. -/
def Obligations.BringUpSequenceCompletes : Prop :=
  ∀ s : State, ControllerInv s → s.phase = .idle → s.halted = false → s.busBuilt = false → 0 < s.conf.clockRate →
    4 ≤ s.env.freeSeq → 4 ≤ s.env.freeCh →
    ∃ s1 s2 s3 t b, exec .initPins s = .next s1 ∧ exec .detectExternalClock s1 = .next s2 ∧
      exec .setupBus s2 = .next s3 ∧ exec .phaseSync s3 = .next t ∧
      t.pins = { s.pins with res := .deasserted, rw := false, cs1 := true, cs2 := true, ctlOutputs := true, dir := 0#14 } ∧
      t.busBuilt = true ∧ t.fullyClaimed = true ∧ t.link = Link.claimedIdle ∧ t.phaseAligned = true ∧
      t.clkExternal = b ∧ t.phase = .idle ∧ t.halted = false ∧ t.paused = s.paused ∧
      t.cells = s.cells ∧ t.shadow = s.shadow ∧ t.volCache = s.volCache ∧
      t.trace = s.trace ++ [.pinsInit, .clockDetect b,
        .busBuilt (busDivider s.plat s.conf.clockRate) (clkDivider s.plat s.conf.clockRate), .phaseSync]

/-! ### The boundary: configuration, environment, agents -/

/-- 20_memory R90, 10_state R36, and the moves of log 1, 2, 7, 20. A configuration load is taken in phase IDLE and refused in any
other; an environment change is taken at once, but a dead external clock stays dead; an agent step that is called for is taken
when it is enabled; with nothing arriving, an idle block takes the one agent step that is enabled under the invariant, and stays
as it is when none is. -/
def Obligations.BoundaryMoves : Prop :=
  ∀ (s : State) (rest : List Stimulus),
    (∀ c, s.inbox = .configure c :: rest → s.phase = .idle → step s = .next { s with inbox := rest, conf := c }) ∧
    (∀ c, s.inbox = .configure c :: rest → s.phase ≠ .idle → step s = .refused .configurationBusy) ∧
    (∀ e, s.inbox = .world e :: rest → step s = .next { s with
      inbox := rest, env := { e with phiAlive := s.env.phiAlive && e.phiAlive } }) ∧
    (∀ a, s.inbox = .agent a :: rest → s.phase = .idle →
      step s = .next (if s.enables a then { s.perform a with inbox := rest } else { s with inbox := rest })) ∧
    (s.inbox = [] → s.phase = .idle → step s = .next s.tick) ∧
    (∀ a, ControllerInv s → s.inbox = [] → s.phase = .idle → s.enables a = true → step s = .next (s.perform a)) ∧
    (s.inbox = [] → s.phase = .idle → (∀ a, s.enables a = false) → step s = .next s)

/-- 20_memory R80 to R86. When the agents have run, none of them has a step left, in whatever state they began. -/
def Obligations.SettleLeavesNoAgentStep : Prop :=
  ∀ (s : State) (a : AgentStep), s.settle.enables a = false

/-- 20_memory R89. Under the invariant at most one agent step is enabled, so between operations the only freedom is whether it
has been taken (log 1). -/
def Obligations.AtMostOneAgentStepEnabled : Prop :=
  ∀ (s : State) (a b : AgentStep), ControllerInv s → s.enables a = true → s.enables b = true → a = b

/-! ### The whole machine -/

/-- The invariant of the controller holds at power-on (10_state R49; the values the spec leaves open there are log 10 to 13). -/
def Obligations.ControllerInvAtReset : Prop := ControllerInv State.reset

/-- 10_state R34, R42, 46_resync R259, 60_exceptions R273, R274, 20_memory R81. Every step keeps the invariant of the controller:
shadow memory canonical; built, everything claimed and running, or not built, nothing claimed, loaded or running unless bring-up was
fatal; channels and words in agreement; gates open outside a wait. Log 7 and log 27: a wait between two steps is only for a
transaction that is stuck, no edge ever to come, and `todo` then holds the rest of the operation. -/
def Obligations.ControllerInvEveryStep : Prop :=
  ∀ s t : State, ControllerInv s → step s = .next t → ControllerInv t

/-- 20_memory R77 ("none of which needs an outside event"). From a state with the invariant no step faults: the hold always ends
(log 15). -/
def Obligations.NoStepFaults : Prop :=
  ∀ (s : State) (f : Fault), ControllerInv s → step s ≠ .fault f

/-- 60_exceptions R273: nothing clears `halted`. -/
def Obligations.HaltedIsNeverLeft : Prop :=
  ∀ s t : State, s.halted = true → step s = .next t → t.halted = true

/-- 20_memory R76: the trace is a list to which steps append. -/
def Obligations.TraceOnlyGrows : Prop :=
  ∀ s t : State, step s = .next t → s.trace <+: t.trace

/-- 10_state R27, R30, R35 to R43, 20_memory R94, 45_clock R247, 46_resync R259. What an operation leaves alone, in every state and
whether it completes or sticks: each flag, divider, sequencer, cache and memory is written by the operations named here only. -/
def Obligations.OperationsWriteOnlyTheirOwn : Prop :=
  ∀ (i : Instr) (s t : State), exec i s = .next t →
    (t.conf = s.conf ∧ t.plat = s.plat ∧ t.inbox = s.inbox) ∧
    (i ≠ .enable → i ≠ .pauseToggle → t.paused = s.paused) ∧
    (i ≠ .detectExternalClock → t.clkExternal = s.clkExternal) ∧
    (i ≠ .setupBus → i ≠ .rebuildBus →
      t.divBus = s.divBus ∧ t.divClk = s.divClk ∧ t.busBuilt = s.busBuilt ∧ t.halted = s.halted ∧
      (i ≠ .phaseSync → t.seqs = s.seqs ∧ t.phaseAligned = s.phaseAligned)) ∧
    (i ≠ .enable → i ≠ .disable → i ≠ .hardReset → i ≠ .initPins → t.pins.res = s.pins.res) ∧
    ((∀ a d n, i ≠ .cycledDispatch a d n) → t.cells.dlw = s.cells.dlw) ∧
    (i ≠ .mute → i ≠ .unmute → i ≠ .enable → i ≠ .disable → i ≠ .pauseToggle → t.volCache = s.volCache) ∧
    (i ≠ .mute → i ≠ .unmute → i ≠ .enable → i ≠ .disable → i ≠ .pauseToggle →
      (∀ a d, i ≠ .write a d) → (∀ a d, i ≠ .read a d) → (∀ a d n, i ≠ .cycledDispatch a d n) →
      (∀ c, i ≠ .clearRegisters c) → t.shadow = s.shadow)

/-- 20_memory R89 (3), R77, 46_resync R256. What an earlier CLEAR_BUS or timed write left in flight comes before any event of a later
operation: an operation adds no event at all, or its events follow those of what was in flight. REBUILD_BUS drops that work: its
events follow the trace as it was, and nothing is left in flight. -/
def Obligations.EarlierWorkComesFirst : Prop :=
  ∀ (i : Instr) (s t : State), ControllerInv s → exec i s = .next t →
    (i ≠ .rebuildBus → t.trace = s.trace ∨ s.settle.trace <+: t.trace) ∧
    (i = .rebuildBus → s.trace ++ [.busTornDown] <+: t.trace ∧ t.link.drained = true)
end

