-- ==== Sys2Proof/Laws/Memory.lean ====
section
/-! SUPPORT. Shadow memory: reading after a write, and that a write keeps the canonical form. -/

namespace Sys2Proof.Machine

@[simp] theorem Memory.read_nil (a : Nat) : Memory.read [] a = powerOnByte := rfl

theorem Memory.read_cons (k : Nat) (w : Byte) (m : List Host.Cell) (a : Nat) :
    Memory.read ((k, w) :: m) a = if k = a then w else Memory.read m a := rfl

/-- Below the first entry nothing is listed. -/
theorem Memory.read_of_lt {m : List Host.Cell} {a : Nat} (h : ∀ c ∈ m, a < c.1) :
    Memory.read m a = powerOnByte := by
  induction m with
  | nil => rfl
  | cons c m ih =>
    obtain ⟨k, w⟩ := c
    have hk : a < k := h (k, w) (by simp)
    rw [Memory.read_cons, if_neg (by omega)]
    exact ih fun c hc => h c (by simp [hc])

theorem Memory.read_entry_same {a : Nat} {v : Byte} {m : List Host.Cell} (h : ∀ c ∈ m, a < c.1) :
    Memory.read (Memory.entry a v m) a = v := by
  unfold Memory.entry
  split
  · next hv => rw [Memory.read_of_lt h, hv]
  · simp [Memory.read_cons]

theorem Memory.read_entry_other {a b : Nat} {v : Byte} {m : List Host.Cell} (h : b ≠ a) :
    Memory.read (Memory.entry a v m) b = Memory.read m b := by
  unfold Memory.entry
  split
  · rfl
  · rw [Memory.read_cons, if_neg (Ne.symm h)]

/-- A write leaves every other byte alone. -/
theorem Memory.read_write_other {m : List Host.Cell} {a b : Nat} {v : Byte} (h : b ≠ a) :
    Memory.read (Memory.write m a v) b = Memory.read m b := by
  induction m with
  | nil => exact Memory.read_entry_other h
  | cons c m ih =>
    obtain ⟨k, w⟩ := c
    simp only [Memory.write]
    split
    · simp only [Memory.read_cons, ih]
    · split
      · next hk => rw [Memory.read_entry_other h, Memory.read_cons, if_neg (by omega)]
      · exact Memory.read_entry_other h

theorem Memory.wf_cons {k : Nat} {w : Byte} {m : List Host.Cell} :
    Memory.wf ((k, w) :: m) ↔ (∀ c ∈ m, k < c.1) ∧ (k < shadowSize ∧ w ≠ powerOnByte) ∧ Memory.wf m := by
  simp only [Memory.wf, List.map_cons, List.pairwise_cons, List.mem_map, List.mem_cons]
  constructor
  · rintro ⟨⟨h1, h2⟩, h3⟩
    exact ⟨fun c hc => h1 c.1 ⟨c, hc, rfl⟩, h3 (k, w) (.inl rfl), h2, fun c hc => h3 c (.inr hc)⟩
  · rintro ⟨h1, h2, h3, h4⟩
    refine ⟨⟨?_, h3⟩, ?_⟩
    · rintro _ ⟨c, hc, rfl⟩
      exact h1 c hc
    · rintro c (rfl | hc)
      · exact h2
      · exact h4 c hc

/-- Reading a byte just written gives the byte written. -/
theorem Memory.read_write_same {m : List Host.Cell} {a : Nat} {v : Byte} (hm : Memory.wf m) :
    Memory.read (Memory.write m a v) a = v := by
  induction m with
  | nil => exact Memory.read_entry_same (by simp)
  | cons c m ih =>
    obtain ⟨k, w⟩ := c
    obtain ⟨hk, -, hm⟩ := Memory.wf_cons.mp hm
    simp only [Memory.write]
    split
    · rw [Memory.read_cons, if_neg (by omega), ih hm]
    · split
      · next hka => exact Memory.read_entry_same (hka ▸ hk)
      · refine Memory.read_entry_same fun c hc => ?_
        rcases List.mem_cons.mp hc with rfl | hc
        · exact by simp only; omega
        · have := hk c hc
          omega

theorem Memory.entry_wf {a : Nat} {v : Byte} {m : List Host.Cell} (hm : Memory.wf m) (ha : a < shadowSize)
    (h : ∀ c ∈ m, a < c.1) : Memory.wf (Memory.entry a v m) := by
  unfold Memory.entry
  split
  · exact hm
  · next hv => exact Memory.wf_cons.mpr ⟨h, ⟨ha, hv⟩, hm⟩

theorem Memory.mem_write_lt {m : List Host.Cell} {k a : Nat} {v : Byte} (h : ∀ c ∈ m, k < c.1) (hk : k < a) :
    ∀ c ∈ Memory.write m a v, k < c.1 := by
  have entry : ∀ m' : List Host.Cell, (∀ c ∈ m', k < c.1) → ∀ c ∈ Memory.entry a v m', k < c.1 := by
    intro m' h' c hc
    unfold Memory.entry at hc
    split at hc
    · exact h' c hc
    · rcases List.mem_cons.mp hc with rfl | hc
      · exact hk
      · exact h' c hc
  induction m with
  | nil => exact entry [] (by simp)
  | cons c m ih =>
    obtain ⟨j, w⟩ := c
    have hm : ∀ c ∈ m, k < c.1 := fun c hc => h c (by simp [hc])
    simp only [Memory.write]
    split
    · intro c hc
      rcases List.mem_cons.mp hc with rfl | hc
      · exact h (j, w) (by simp)
      · exact ih hm c hc
    · split
      · exact entry m hm
      · exact entry _ h

/-- A write inside shadow memory keeps the canonical form. -/
theorem Memory.write_wf {m : List Host.Cell} {a : Nat} {v : Byte} (hm : Memory.wf m) (ha : a < shadowSize) :
    Memory.wf (Memory.write m a v) := by
  induction m with
  | nil => exact Memory.entry_wf hm ha (by simp)
  | cons c m ih =>
    obtain ⟨k, w⟩ := c
    obtain ⟨hk, hw, hm'⟩ := Memory.wf_cons.mp hm
    simp only [Memory.write]
    split
    · next hka => exact Memory.wf_cons.mpr ⟨Memory.mem_write_lt hk hka, hw, ih hm'⟩
    · split
      · next hka => exact Memory.entry_wf hm' ha (hka ▸ hk)
      · refine Memory.entry_wf hm ha fun c hc => ?_
        rcases List.mem_cons.mp hc with rfl | hc
        · exact by simp only; omega
        · have := hk c hc
          omega

/-- Memory at power-on is canonical. -/
theorem Memory.wf_nil : Memory.wf [] := by simp [Memory.wf]

end Sys2Proof.Machine
end

