-- ==== Sys2Proof/Laws/State.lean ====
section
/-! SUPPORT. What each field of the state is after each named update, and the registers and cells as the spec numbers them. -/

namespace Sys2Proof.Machine

variable (s : State)

/-! ### `State.emit` -/

@[simp] theorem State.emit_cells (e : Event) : (s.emit e).cells = s.cells := rfl
@[simp] theorem State.emit_shadow (e : Event) : (s.emit e).shadow = s.shadow := rfl
@[simp] theorem State.emit_volCache (e : Event) : (s.emit e).volCache = s.volCache := rfl
@[simp] theorem State.emit_phase (e : Event) : (s.emit e).phase = s.phase := rfl
@[simp] theorem State.emit_paused (e : Event) : (s.emit e).paused = s.paused := rfl
@[simp] theorem State.emit_busBuilt (e : Event) : (s.emit e).busBuilt = s.busBuilt := rfl
@[simp] theorem State.emit_halted (e : Event) : (s.emit e).halted = s.halted := rfl
@[simp] theorem State.emit_clkExternal (e : Event) : (s.emit e).clkExternal = s.clkExternal := rfl
@[simp] theorem State.emit_phaseAligned (e : Event) : (s.emit e).phaseAligned = s.phaseAligned := rfl
@[simp] theorem State.emit_divBus (e : Event) : (s.emit e).divBus = s.divBus := rfl
@[simp] theorem State.emit_divClk (e : Event) : (s.emit e).divClk = s.divClk := rfl
@[simp] theorem State.emit_seqs (e : Event) : (s.emit e).seqs = s.seqs := rfl
@[simp] theorem State.emit_link (e : Event) : (s.emit e).link = s.link := rfl
@[simp] theorem State.emit_pins (e : Event) : (s.emit e).pins = s.pins := rfl
@[simp] theorem State.emit_conf (e : Event) : (s.emit e).conf = s.conf := rfl
@[simp] theorem State.emit_trace (e : Event) : (s.emit e).trace = s.trace ++ [e] := rfl
@[simp] theorem State.emit_plat (e : Event) : (s.emit e).plat = s.plat := rfl
@[simp] theorem State.emit_env (e : Event) : (s.emit e).env = s.env := rfl
@[simp] theorem State.emit_result (e : Event) : (s.emit e).result = s.result := rfl
@[simp] theorem State.emit_todo (e : Event) : (s.emit e).todo = s.todo := rfl
@[simp] theorem State.emit_inbox (e : Event) : (s.emit e).inbox = s.inbox := rfl
@[simp] theorem State.emit_draws (e : Event) : (s.emit e).draws = s.draws := rfl

/-! ### `State.returning` -/

@[simp] theorem State.returning_cells (r : Result) : (s.returning r).cells = s.cells := rfl
@[simp] theorem State.returning_shadow (r : Result) : (s.returning r).shadow = s.shadow := rfl
@[simp] theorem State.returning_volCache (r : Result) : (s.returning r).volCache = s.volCache := rfl
@[simp] theorem State.returning_phase (r : Result) : (s.returning r).phase = s.phase := rfl
@[simp] theorem State.returning_paused (r : Result) : (s.returning r).paused = s.paused := rfl
@[simp] theorem State.returning_busBuilt (r : Result) : (s.returning r).busBuilt = s.busBuilt := rfl
@[simp] theorem State.returning_halted (r : Result) : (s.returning r).halted = s.halted := rfl
@[simp] theorem State.returning_clkExternal (r : Result) : (s.returning r).clkExternal = s.clkExternal := rfl
@[simp] theorem State.returning_phaseAligned (r : Result) : (s.returning r).phaseAligned = s.phaseAligned := rfl
@[simp] theorem State.returning_divBus (r : Result) : (s.returning r).divBus = s.divBus := rfl
@[simp] theorem State.returning_divClk (r : Result) : (s.returning r).divClk = s.divClk := rfl
@[simp] theorem State.returning_seqs (r : Result) : (s.returning r).seqs = s.seqs := rfl
@[simp] theorem State.returning_link (r : Result) : (s.returning r).link = s.link := rfl
@[simp] theorem State.returning_pins (r : Result) : (s.returning r).pins = s.pins := rfl
@[simp] theorem State.returning_conf (r : Result) : (s.returning r).conf = s.conf := rfl
@[simp] theorem State.returning_trace (r : Result) : (s.returning r).trace = s.trace := rfl
@[simp] theorem State.returning_plat (r : Result) : (s.returning r).plat = s.plat := rfl
@[simp] theorem State.returning_env (r : Result) : (s.returning r).env = s.env := rfl
@[simp] theorem State.returning_result (r : Result) : (s.returning r).result = r := rfl
@[simp] theorem State.returning_todo (r : Result) : (s.returning r).todo = s.todo := rfl
@[simp] theorem State.returning_inbox (r : Result) : (s.returning r).inbox = s.inbox := rfl
@[simp] theorem State.returning_draws (r : Result) : (s.returning r).draws = s.draws := rfl

/-! ### `State.setRes` -/

@[simp] theorem State.setRes_cells (l : ResLine) : (s.setRes l).cells = s.cells := rfl
@[simp] theorem State.setRes_shadow (l : ResLine) : (s.setRes l).shadow = s.shadow := rfl
@[simp] theorem State.setRes_volCache (l : ResLine) : (s.setRes l).volCache = s.volCache := rfl
@[simp] theorem State.setRes_phase (l : ResLine) : (s.setRes l).phase = s.phase := rfl
@[simp] theorem State.setRes_paused (l : ResLine) : (s.setRes l).paused = s.paused := rfl
@[simp] theorem State.setRes_busBuilt (l : ResLine) : (s.setRes l).busBuilt = s.busBuilt := rfl
@[simp] theorem State.setRes_halted (l : ResLine) : (s.setRes l).halted = s.halted := rfl
@[simp] theorem State.setRes_clkExternal (l : ResLine) : (s.setRes l).clkExternal = s.clkExternal := rfl
@[simp] theorem State.setRes_phaseAligned (l : ResLine) : (s.setRes l).phaseAligned = s.phaseAligned := rfl
@[simp] theorem State.setRes_divBus (l : ResLine) : (s.setRes l).divBus = s.divBus := rfl
@[simp] theorem State.setRes_divClk (l : ResLine) : (s.setRes l).divClk = s.divClk := rfl
@[simp] theorem State.setRes_seqs (l : ResLine) : (s.setRes l).seqs = s.seqs := rfl
@[simp] theorem State.setRes_link (l : ResLine) : (s.setRes l).link = s.link := rfl
@[simp] theorem State.setRes_pins (l : ResLine) : (s.setRes l).pins = { s.pins with res := l } := rfl
@[simp] theorem State.setRes_conf (l : ResLine) : (s.setRes l).conf = s.conf := rfl
@[simp] theorem State.setRes_trace (l : ResLine) : (s.setRes l).trace = s.trace := rfl
@[simp] theorem State.setRes_plat (l : ResLine) : (s.setRes l).plat = s.plat := rfl
@[simp] theorem State.setRes_env (l : ResLine) : (s.setRes l).env = s.env := rfl
@[simp] theorem State.setRes_result (l : ResLine) : (s.setRes l).result = s.result := rfl
@[simp] theorem State.setRes_todo (l : ResLine) : (s.setRes l).todo = s.todo := rfl
@[simp] theorem State.setRes_inbox (l : ResLine) : (s.setRes l).inbox = s.inbox := rfl
@[simp] theorem State.setRes_draws (l : ResLine) : (s.setRes l).draws = s.draws := rfl

/-! ### `State.setShadow` -/

@[simp] theorem State.setShadow_cells (a v : Byte) : (s.setShadow a v).cells = s.cells := rfl
@[simp] theorem State.setShadow_shadow (a v : Byte) : (s.setShadow a v).shadow = Memory.write s.shadow a.toNat v := rfl
@[simp] theorem State.setShadow_volCache (a v : Byte) : (s.setShadow a v).volCache = s.volCache := rfl
@[simp] theorem State.setShadow_phase (a v : Byte) : (s.setShadow a v).phase = s.phase := rfl
@[simp] theorem State.setShadow_paused (a v : Byte) : (s.setShadow a v).paused = s.paused := rfl
@[simp] theorem State.setShadow_busBuilt (a v : Byte) : (s.setShadow a v).busBuilt = s.busBuilt := rfl
@[simp] theorem State.setShadow_halted (a v : Byte) : (s.setShadow a v).halted = s.halted := rfl
@[simp] theorem State.setShadow_clkExternal (a v : Byte) : (s.setShadow a v).clkExternal = s.clkExternal := rfl
@[simp] theorem State.setShadow_phaseAligned (a v : Byte) : (s.setShadow a v).phaseAligned = s.phaseAligned := rfl
@[simp] theorem State.setShadow_divBus (a v : Byte) : (s.setShadow a v).divBus = s.divBus := rfl
@[simp] theorem State.setShadow_divClk (a v : Byte) : (s.setShadow a v).divClk = s.divClk := rfl
@[simp] theorem State.setShadow_seqs (a v : Byte) : (s.setShadow a v).seqs = s.seqs := rfl
@[simp] theorem State.setShadow_link (a v : Byte) : (s.setShadow a v).link = s.link := rfl
@[simp] theorem State.setShadow_pins (a v : Byte) : (s.setShadow a v).pins = s.pins := rfl
@[simp] theorem State.setShadow_conf (a v : Byte) : (s.setShadow a v).conf = s.conf := rfl
@[simp] theorem State.setShadow_trace (a v : Byte) : (s.setShadow a v).trace = s.trace := rfl
@[simp] theorem State.setShadow_plat (a v : Byte) : (s.setShadow a v).plat = s.plat := rfl
@[simp] theorem State.setShadow_env (a v : Byte) : (s.setShadow a v).env = s.env := rfl
@[simp] theorem State.setShadow_result (a v : Byte) : (s.setShadow a v).result = s.result := rfl
@[simp] theorem State.setShadow_todo (a v : Byte) : (s.setShadow a v).todo = s.todo := rfl
@[simp] theorem State.setShadow_inbox (a v : Byte) : (s.setShadow a v).inbox = s.inbox := rfl
@[simp] theorem State.setShadow_draws (a v : Byte) : (s.setShadow a v).draws = s.draws := rfl

/-! ### `State.setWords` -/

@[simp] theorem State.setWords_cells (cw : ControlWord) (dw : DataWord) : (s.setWords cw dw).cells = { s.cells with cw := cw, dw := dw } := rfl
@[simp] theorem State.setWords_shadow (cw : ControlWord) (dw : DataWord) : (s.setWords cw dw).shadow = s.shadow := rfl
@[simp] theorem State.setWords_volCache (cw : ControlWord) (dw : DataWord) : (s.setWords cw dw).volCache = s.volCache := rfl
@[simp] theorem State.setWords_phase (cw : ControlWord) (dw : DataWord) : (s.setWords cw dw).phase = s.phase := rfl
@[simp] theorem State.setWords_paused (cw : ControlWord) (dw : DataWord) : (s.setWords cw dw).paused = s.paused := rfl
@[simp] theorem State.setWords_busBuilt (cw : ControlWord) (dw : DataWord) : (s.setWords cw dw).busBuilt = s.busBuilt := rfl
@[simp] theorem State.setWords_halted (cw : ControlWord) (dw : DataWord) : (s.setWords cw dw).halted = s.halted := rfl
@[simp] theorem State.setWords_clkExternal (cw : ControlWord) (dw : DataWord) : (s.setWords cw dw).clkExternal = s.clkExternal := rfl
@[simp] theorem State.setWords_phaseAligned (cw : ControlWord) (dw : DataWord) : (s.setWords cw dw).phaseAligned = s.phaseAligned := rfl
@[simp] theorem State.setWords_divBus (cw : ControlWord) (dw : DataWord) : (s.setWords cw dw).divBus = s.divBus := rfl
@[simp] theorem State.setWords_divClk (cw : ControlWord) (dw : DataWord) : (s.setWords cw dw).divClk = s.divClk := rfl
@[simp] theorem State.setWords_seqs (cw : ControlWord) (dw : DataWord) : (s.setWords cw dw).seqs = s.seqs := rfl
@[simp] theorem State.setWords_link (cw : ControlWord) (dw : DataWord) : (s.setWords cw dw).link = s.link := rfl
@[simp] theorem State.setWords_pins (cw : ControlWord) (dw : DataWord) : (s.setWords cw dw).pins = s.pins := rfl
@[simp] theorem State.setWords_conf (cw : ControlWord) (dw : DataWord) : (s.setWords cw dw).conf = s.conf := rfl
@[simp] theorem State.setWords_trace (cw : ControlWord) (dw : DataWord) : (s.setWords cw dw).trace = s.trace := rfl
@[simp] theorem State.setWords_plat (cw : ControlWord) (dw : DataWord) : (s.setWords cw dw).plat = s.plat := rfl
@[simp] theorem State.setWords_env (cw : ControlWord) (dw : DataWord) : (s.setWords cw dw).env = s.env := rfl
@[simp] theorem State.setWords_result (cw : ControlWord) (dw : DataWord) : (s.setWords cw dw).result = s.result := rfl
@[simp] theorem State.setWords_todo (cw : ControlWord) (dw : DataWord) : (s.setWords cw dw).todo = s.todo := rfl
@[simp] theorem State.setWords_inbox (cw : ControlWord) (dw : DataWord) : (s.setWords cw dw).inbox = s.inbox := rfl
@[simp] theorem State.setWords_draws (cw : ControlWord) (dw : DataWord) : (s.setWords cw dw).draws = s.draws := rfl

/-! ### `State.armGates` -/

@[simp] theorem State.armGates_cells : (s.armGates).cells = s.cells := rfl
@[simp] theorem State.armGates_shadow : (s.armGates).shadow = s.shadow := rfl
@[simp] theorem State.armGates_volCache : (s.armGates).volCache = s.volCache := rfl
@[simp] theorem State.armGates_phase : (s.armGates).phase = s.phase := rfl
@[simp] theorem State.armGates_paused : (s.armGates).paused = s.paused := rfl
@[simp] theorem State.armGates_busBuilt : (s.armGates).busBuilt = s.busBuilt := rfl
@[simp] theorem State.armGates_halted : (s.armGates).halted = s.halted := rfl
@[simp] theorem State.armGates_clkExternal : (s.armGates).clkExternal = s.clkExternal := rfl
@[simp] theorem State.armGates_phaseAligned : (s.armGates).phaseAligned = s.phaseAligned := rfl
@[simp] theorem State.armGates_divBus : (s.armGates).divBus = s.divBus := rfl
@[simp] theorem State.armGates_divClk : (s.armGates).divClk = s.divClk := rfl
@[simp] theorem State.armGates_seqs : (s.armGates).seqs = s.seqs := rfl
@[simp] theorem State.armGates_link : (s.armGates).link = { s.link with gateCtrl := .armed, gateData := .armed } := rfl
@[simp] theorem State.armGates_pins : (s.armGates).pins = s.pins := rfl
@[simp] theorem State.armGates_conf : (s.armGates).conf = s.conf := rfl
@[simp] theorem State.armGates_trace : (s.armGates).trace = s.trace := rfl
@[simp] theorem State.armGates_plat : (s.armGates).plat = s.plat := rfl
@[simp] theorem State.armGates_env : (s.armGates).env = s.env := rfl
@[simp] theorem State.armGates_result : (s.armGates).result = s.result := rfl
@[simp] theorem State.armGates_todo : (s.armGates).todo = s.todo := rfl
@[simp] theorem State.armGates_inbox : (s.armGates).inbox = s.inbox := rfl
@[simp] theorem State.armGates_draws : (s.armGates).draws = s.draws := rfl

/-! ### `State.triggerCtrl` -/

@[simp] theorem State.triggerCtrl_cells : (s.triggerCtrl).cells = s.cells := rfl
@[simp] theorem State.triggerCtrl_shadow : (s.triggerCtrl).shadow = s.shadow := rfl
@[simp] theorem State.triggerCtrl_volCache : (s.triggerCtrl).volCache = s.volCache := rfl
@[simp] theorem State.triggerCtrl_phase : (s.triggerCtrl).phase = s.phase := rfl
@[simp] theorem State.triggerCtrl_paused : (s.triggerCtrl).paused = s.paused := rfl
@[simp] theorem State.triggerCtrl_busBuilt : (s.triggerCtrl).busBuilt = s.busBuilt := rfl
@[simp] theorem State.triggerCtrl_halted : (s.triggerCtrl).halted = s.halted := rfl
@[simp] theorem State.triggerCtrl_clkExternal : (s.triggerCtrl).clkExternal = s.clkExternal := rfl
@[simp] theorem State.triggerCtrl_phaseAligned : (s.triggerCtrl).phaseAligned = s.phaseAligned := rfl
@[simp] theorem State.triggerCtrl_divBus : (s.triggerCtrl).divBus = s.divBus := rfl
@[simp] theorem State.triggerCtrl_divClk : (s.triggerCtrl).divClk = s.divClk := rfl
@[simp] theorem State.triggerCtrl_seqs : (s.triggerCtrl).seqs = s.seqs := rfl
@[simp] theorem State.triggerCtrl_link : (s.triggerCtrl).link = { s.link with txCtrl := { s.link.txCtrl with busy := true }, pendCtrl := some s.cells.cw } := rfl
@[simp] theorem State.triggerCtrl_pins : (s.triggerCtrl).pins = s.pins := rfl
@[simp] theorem State.triggerCtrl_conf : (s.triggerCtrl).conf = s.conf := rfl
@[simp] theorem State.triggerCtrl_trace : (s.triggerCtrl).trace = s.trace := rfl
@[simp] theorem State.triggerCtrl_plat : (s.triggerCtrl).plat = s.plat := rfl
@[simp] theorem State.triggerCtrl_env : (s.triggerCtrl).env = s.env := rfl
@[simp] theorem State.triggerCtrl_result : (s.triggerCtrl).result = s.result := rfl
@[simp] theorem State.triggerCtrl_todo : (s.triggerCtrl).todo = s.todo := rfl
@[simp] theorem State.triggerCtrl_inbox : (s.triggerCtrl).inbox = s.inbox := rfl
@[simp] theorem State.triggerCtrl_draws : (s.triggerCtrl).draws = s.draws := rfl

/-! ### `State.triggerData` -/

@[simp] theorem State.triggerData_cells : (s.triggerData).cells = s.cells := rfl
@[simp] theorem State.triggerData_shadow : (s.triggerData).shadow = s.shadow := rfl
@[simp] theorem State.triggerData_volCache : (s.triggerData).volCache = s.volCache := rfl
@[simp] theorem State.triggerData_phase : (s.triggerData).phase = s.phase := rfl
@[simp] theorem State.triggerData_paused : (s.triggerData).paused = s.paused := rfl
@[simp] theorem State.triggerData_busBuilt : (s.triggerData).busBuilt = s.busBuilt := rfl
@[simp] theorem State.triggerData_halted : (s.triggerData).halted = s.halted := rfl
@[simp] theorem State.triggerData_clkExternal : (s.triggerData).clkExternal = s.clkExternal := rfl
@[simp] theorem State.triggerData_phaseAligned : (s.triggerData).phaseAligned = s.phaseAligned := rfl
@[simp] theorem State.triggerData_divBus : (s.triggerData).divBus = s.divBus := rfl
@[simp] theorem State.triggerData_divClk : (s.triggerData).divClk = s.divClk := rfl
@[simp] theorem State.triggerData_seqs : (s.triggerData).seqs = s.seqs := rfl
@[simp] theorem State.triggerData_link : (s.triggerData).link = { s.link with txData := { s.link.txData with busy := true }, pendData := some s.cells.dw } := rfl
@[simp] theorem State.triggerData_pins : (s.triggerData).pins = s.pins := rfl
@[simp] theorem State.triggerData_conf : (s.triggerData).conf = s.conf := rfl
@[simp] theorem State.triggerData_trace : (s.triggerData).trace = s.trace := rfl
@[simp] theorem State.triggerData_plat : (s.triggerData).plat = s.plat := rfl
@[simp] theorem State.triggerData_env : (s.triggerData).env = s.env := rfl
@[simp] theorem State.triggerData_result : (s.triggerData).result = s.result := rfl
@[simp] theorem State.triggerData_todo : (s.triggerData).todo = s.todo := rfl
@[simp] theorem State.triggerData_inbox : (s.triggerData).inbox = s.inbox := rfl
@[simp] theorem State.triggerData_draws : (s.triggerData).draws = s.draws := rfl

/-! ### `State.triggerDelay` -/

@[simp] theorem State.triggerDelay_cells : (s.triggerDelay).cells = s.cells := rfl
@[simp] theorem State.triggerDelay_shadow : (s.triggerDelay).shadow = s.shadow := rfl
@[simp] theorem State.triggerDelay_volCache : (s.triggerDelay).volCache = s.volCache := rfl
@[simp] theorem State.triggerDelay_phase : (s.triggerDelay).phase = s.phase := rfl
@[simp] theorem State.triggerDelay_paused : (s.triggerDelay).paused = s.paused := rfl
@[simp] theorem State.triggerDelay_busBuilt : (s.triggerDelay).busBuilt = s.busBuilt := rfl
@[simp] theorem State.triggerDelay_halted : (s.triggerDelay).halted = s.halted := rfl
@[simp] theorem State.triggerDelay_clkExternal : (s.triggerDelay).clkExternal = s.clkExternal := rfl
@[simp] theorem State.triggerDelay_phaseAligned : (s.triggerDelay).phaseAligned = s.phaseAligned := rfl
@[simp] theorem State.triggerDelay_divBus : (s.triggerDelay).divBus = s.divBus := rfl
@[simp] theorem State.triggerDelay_divClk : (s.triggerDelay).divClk = s.divClk := rfl
@[simp] theorem State.triggerDelay_seqs : (s.triggerDelay).seqs = s.seqs := rfl
@[simp] theorem State.triggerDelay_link : (s.triggerDelay).link = { s.link with txDly := { s.link.txDly with busy := true }, pendDly := some s.cells.dlw } := rfl
@[simp] theorem State.triggerDelay_pins : (s.triggerDelay).pins = s.pins := rfl
@[simp] theorem State.triggerDelay_conf : (s.triggerDelay).conf = s.conf := rfl
@[simp] theorem State.triggerDelay_trace : (s.triggerDelay).trace = s.trace := rfl
@[simp] theorem State.triggerDelay_plat : (s.triggerDelay).plat = s.plat := rfl
@[simp] theorem State.triggerDelay_env : (s.triggerDelay).env = s.env := rfl
@[simp] theorem State.triggerDelay_result : (s.triggerDelay).result = s.result := rfl
@[simp] theorem State.triggerDelay_todo : (s.triggerDelay).todo = s.todo := rfl
@[simp] theorem State.triggerDelay_inbox : (s.triggerDelay).inbox = s.inbox := rfl
@[simp] theorem State.triggerDelay_draws : (s.triggerDelay).draws = s.draws := rfl

/-! ### `State.triggerReceive` -/

@[simp] theorem State.triggerReceive_cells : (s.triggerReceive).cells = s.cells := rfl
@[simp] theorem State.triggerReceive_shadow : (s.triggerReceive).shadow = s.shadow := rfl
@[simp] theorem State.triggerReceive_volCache : (s.triggerReceive).volCache = s.volCache := rfl
@[simp] theorem State.triggerReceive_phase : (s.triggerReceive).phase = s.phase := rfl
@[simp] theorem State.triggerReceive_paused : (s.triggerReceive).paused = s.paused := rfl
@[simp] theorem State.triggerReceive_busBuilt : (s.triggerReceive).busBuilt = s.busBuilt := rfl
@[simp] theorem State.triggerReceive_halted : (s.triggerReceive).halted = s.halted := rfl
@[simp] theorem State.triggerReceive_clkExternal : (s.triggerReceive).clkExternal = s.clkExternal := rfl
@[simp] theorem State.triggerReceive_phaseAligned : (s.triggerReceive).phaseAligned = s.phaseAligned := rfl
@[simp] theorem State.triggerReceive_divBus : (s.triggerReceive).divBus = s.divBus := rfl
@[simp] theorem State.triggerReceive_divClk : (s.triggerReceive).divClk = s.divClk := rfl
@[simp] theorem State.triggerReceive_seqs : (s.triggerReceive).seqs = s.seqs := rfl
@[simp] theorem State.triggerReceive_link : (s.triggerReceive).link = { s.link with rxData := { s.link.rxData with busy := true } } := rfl
@[simp] theorem State.triggerReceive_pins : (s.triggerReceive).pins = s.pins := rfl
@[simp] theorem State.triggerReceive_conf : (s.triggerReceive).conf = s.conf := rfl
@[simp] theorem State.triggerReceive_trace : (s.triggerReceive).trace = s.trace := rfl
@[simp] theorem State.triggerReceive_plat : (s.triggerReceive).plat = s.plat := rfl
@[simp] theorem State.triggerReceive_env : (s.triggerReceive).env = s.env := rfl
@[simp] theorem State.triggerReceive_result : (s.triggerReceive).result = s.result := rfl
@[simp] theorem State.triggerReceive_todo : (s.triggerReceive).todo = s.todo := rfl
@[simp] theorem State.triggerReceive_inbox : (s.triggerReceive).inbox = s.inbox := rfl
@[simp] theorem State.triggerReceive_draws : (s.triggerReceive).draws = s.draws := rfl

/-- The top byte of the result cell is the field that holds the sample (30_encoding R134). -/
@[simp] theorem Cells.rr_top (c : Cells) : c.rr.extractLsb' 24 8 = c.rrTop := by
  apply BitVec.eq_of_getLsbD_eq
  intro i hi
  have h := BitVec.getLsbD_append (x := c.rrTop) (y := c.rrLow) (i := 24 + i)
  simp only [BitVec.getLsbD_extractLsb', hi, decide_true, Bool.true_and]
  exact h.trans (by simp)

end Sys2Proof.Machine
end

