-- ==== Sys2Proof/Laws/Words.lean ====
section
/-! SUPPORT. The fields of the packed words (30_encoding R126 to R132). -/

namespace Sys2Proof.Machine

/-- Two patterns for one region: exactly those with both select bits set disable it (43_router R217). -/
theorem patternDisabled_iff (p : Select) : patternDisabled p = (p.getLsbD 1 && p.getLsbD 2) := by
  revert p; decide

/-- A pattern that neither disables nor is reserved leaves the read bit clear (43_router R217). -/
theorem enabled_pattern_bit0 (p : Select) (h1 : patternDisabled p = false) (h2 : patternReserved p = false) :
    p.getLsbD 0 = false := by
  revert p; decide

@[simp] theorem cwAct_write (p : Select) : cwAct (packControl cwBase p) = p := by revert p; decide
@[simp] theorem cwRel_write (p : Select) : cwRel (packControl cwBase p) = 0b110#3 := by revert p; decide
@[simp] theorem cwAct_cycled (p : Select) : cwAct (packControl cwBaseCycled p) = p := by revert p; decide
@[simp] theorem cwRel_cycled (p : Select) : cwRel (packControl cwBaseCycled p) = 0b111#3 := by revert p; decide
@[simp] theorem cwAct_read (p : Select) : cwAct (packControl cwBase p ||| cwReadBit) = p ||| 0b001#3 := by
  revert p; decide
@[simp] theorem cwRel_read (p : Select) : cwRel (packControl cwBase p ||| cwReadBit) = 0b110#3 := by revert p; decide
@[simp] theorem cwIsRead_write (p : Select) : cwIsRead (packControl cwBase p) = p.getLsbD 0 := by revert p; decide
@[simp] theorem cwIsRead_cycled (p : Select) : cwIsRead (packControl cwBaseCycled p) = p.getLsbD 0 := by
  revert p; decide
@[simp] theorem cwIsRead_read (p : Select) : cwIsRead (packControl cwBase p ||| cwReadBit) = true := by
  revert p; decide
@[simp] theorem cwAct_pause : cwAct cwPause = 0b110#3 := by decide
@[simp] theorem cwRel_pause : cwRel cwPause = 0b110#3 := by decide

/-- The bits of a packed data word: data, address, two zero bits, direction mask (30_encoding R130). -/
theorem packData_eq_append (dirmask : BitVec 16) (masked : BusAddr) (data : Byte) :
    packData dirmask masked data = dirmask ++ (0#2 ++ (masked ++ data : BitVec 14) : BitVec 16) := by
  apply BitVec.eq_of_getLsbD_eq
  intro i hi
  simp only [packData, BitVec.getLsbD_or, BitVec.getLsbD_shiftLeft, BitVec.getLsbD_setWidth]
  rw [BitVec.getLsbD_append, BitVec.getLsbD_append, BitVec.getLsbD_append]
  by_cases h1 : i < 8
  · simp [h1, hi, show i < 16 by omega, show i < 14 by omega]
  · have hd : data.getLsbD i = false := BitVec.getLsbD_of_ge data i (by omega)
    by_cases h2 : i < 14
    · simp [h1, h2, hi, hd, show i < 16 by omega]
      omega
    · have hm : masked.getLsbD (i - 8) = false := BitVec.getLsbD_of_ge masked (i - 8) (by omega)
      by_cases h3 : i < 16
      · simp [h2, h3, hd, hm]
      · simp [h3, hi, hd, hm]
        omega

/-- A field below the direction mask. -/
theorem packData_extract_low {start len : Nat} (dirmask : BitVec 16) (masked : BusAddr) (data : Byte)
    (h : start + len ≤ 14) :
    (packData dirmask masked data).extractLsb' start len = (masked ++ data : BitVec 14).extractLsb' start len := by
  apply BitVec.eq_of_getLsbD_eq
  intro i hi
  rw [packData_eq_append]
  simp only [BitVec.getLsbD_extractLsb', hi, decide_true, Bool.true_and]
  rw [BitVec.getLsbD_append, if_pos (by omega), BitVec.getLsbD_append, if_pos (by omega)]

@[simp] theorem dwData_packData (dirmask : BitVec 16) (masked : BusAddr) (data : Byte) :
    dwData (packData dirmask masked data) = data := by
  apply BitVec.eq_of_getLsbD_eq
  intro i hi
  rw [dwData, packData_extract_low _ _ _ (by omega)]
  simp only [BitVec.getLsbD_extractLsb', hi, decide_true, Bool.true_and]
  rw [BitVec.getLsbD_append, if_pos (by omega), Nat.zero_add]

@[simp] theorem dwAddr_packData (dirmask : BitVec 16) (masked : BusAddr) (data : Byte) :
    dwAddr (packData dirmask masked data) = masked := by
  apply BitVec.eq_of_getLsbD_eq
  intro i hi
  rw [dwAddr, packData_extract_low _ _ _ (by omega)]
  simp only [BitVec.getLsbD_extractLsb', hi, decide_true, Bool.true_and]
  rw [BitVec.getLsbD_append, if_neg (by omega), Nat.add_sub_cancel_left]

@[simp] theorem dwOut_packData (dirmask : BitVec 16) (masked : BusAddr) (data : Byte) :
    dwOut (packData dirmask masked data) = masked ++ data := by
  apply BitVec.eq_of_getLsbD_eq
  intro i hi
  rw [dwOut, packData_extract_low _ _ _ (by omega)]
  simp only [BitVec.getLsbD_extractLsb', hi, decide_true, Bool.true_and, Nat.zero_add]

@[simp] theorem dwDir_packData (dirmask : BitVec 16) (masked : BusAddr) (data : Byte) :
    dwDir (packData dirmask masked data) = dirmask.extractLsb' 0 14 := by
  apply BitVec.eq_of_getLsbD_eq
  intro i hi
  rw [dwDir, packData_eq_append]
  simp only [BitVec.getLsbD_extractLsb', hi, decide_true, Bool.true_and, Nat.zero_add]
  rw [BitVec.getLsbD_append, if_neg (by omega), Nat.add_sub_cancel_left]

/-- The high nibble is kept and the low nibble forced, said with one mask (44_lifecycle R223). -/
theorem unmutedByte_eq (v : Byte) : unmutedByte v = if v &&& 0x0F#8 = 0#8 then v ||| 0x0E#8 else v := by
  revert v; decide

end Sys2Proof.Machine
end

