-- ==== Sys2Proof/Laws/Control.lean ====
section
/-! SUPPORT. What the agents, the hold, the waits and the tests of an operation can do, said once. -/

namespace Sys2Proof.Machine

/-! ### What an agent step leaves alone -/

@[simp] theorem State.perform_shadow (s : State) (a : AgentStep) : (s.perform a).shadow = s.shadow := by
  cases a <;> simp only [State.perform] <;> split <;> rfl
@[simp] theorem State.perform_volCache (s : State) (a : AgentStep) : (s.perform a).volCache = s.volCache := by
  cases a <;> simp only [State.perform] <;> split <;> rfl
@[simp] theorem State.perform_phase (s : State) (a : AgentStep) : (s.perform a).phase = s.phase := by
  cases a <;> simp only [State.perform] <;> split <;> rfl
@[simp] theorem State.perform_paused (s : State) (a : AgentStep) : (s.perform a).paused = s.paused := by
  cases a <;> simp only [State.perform] <;> split <;> rfl
@[simp] theorem State.perform_busBuilt (s : State) (a : AgentStep) : (s.perform a).busBuilt = s.busBuilt := by
  cases a <;> simp only [State.perform] <;> split <;> rfl
@[simp] theorem State.perform_halted (s : State) (a : AgentStep) : (s.perform a).halted = s.halted := by
  cases a <;> simp only [State.perform] <;> split <;> rfl
@[simp] theorem State.perform_clkExternal (s : State) (a : AgentStep) : (s.perform a).clkExternal = s.clkExternal := by
  cases a <;> simp only [State.perform] <;> split <;> rfl
@[simp] theorem State.perform_phaseAligned (s : State) (a : AgentStep) : (s.perform a).phaseAligned = s.phaseAligned := by
  cases a <;> simp only [State.perform] <;> split <;> rfl
@[simp] theorem State.perform_divBus (s : State) (a : AgentStep) : (s.perform a).divBus = s.divBus := by
  cases a <;> simp only [State.perform] <;> split <;> rfl
@[simp] theorem State.perform_divClk (s : State) (a : AgentStep) : (s.perform a).divClk = s.divClk := by
  cases a <;> simp only [State.perform] <;> split <;> rfl
@[simp] theorem State.perform_seqs (s : State) (a : AgentStep) : (s.perform a).seqs = s.seqs := by
  cases a <;> simp only [State.perform] <;> split <;> rfl
@[simp] theorem State.perform_conf (s : State) (a : AgentStep) : (s.perform a).conf = s.conf := by
  cases a <;> simp only [State.perform] <;> split <;> rfl
@[simp] theorem State.perform_plat (s : State) (a : AgentStep) : (s.perform a).plat = s.plat := by
  cases a <;> simp only [State.perform] <;> split <;> rfl
@[simp] theorem State.perform_result (s : State) (a : AgentStep) : (s.perform a).result = s.result := by
  cases a <;> simp only [State.perform] <;> split <;> rfl
@[simp] theorem State.perform_todo (s : State) (a : AgentStep) : (s.perform a).todo = s.todo := by
  cases a <;> simp only [State.perform] <;> split <;> rfl
@[simp] theorem State.perform_inbox (s : State) (a : AgentStep) : (s.perform a).inbox = s.inbox := by
  cases a <;> simp only [State.perform] <;> split <;> rfl

@[simp] theorem State.tryAgent_shadow (s : State) (a : AgentStep) : (s.tryAgent a).shadow = s.shadow := by
  unfold State.tryAgent; split <;> simp
@[simp] theorem State.tryBus_shadow (s : State) : s.tryBus.shadow = s.shadow := by
  unfold State.tryBus; repeat' split
  all_goals simp
@[simp] theorem State.settle_shadow (s : State) : s.settle.shadow = s.shadow := by simp [State.settle]
@[simp] theorem State.tick_shadow (s : State) : s.tick.shadow = s.shadow := by
  unfold State.tick; repeat' split
  all_goals simp
@[simp] theorem State.tryAgent_volCache (s : State) (a : AgentStep) : (s.tryAgent a).volCache = s.volCache := by
  unfold State.tryAgent; split <;> simp
@[simp] theorem State.tryBus_volCache (s : State) : s.tryBus.volCache = s.volCache := by
  unfold State.tryBus; repeat' split
  all_goals simp
@[simp] theorem State.settle_volCache (s : State) : s.settle.volCache = s.volCache := by simp [State.settle]
@[simp] theorem State.tick_volCache (s : State) : s.tick.volCache = s.volCache := by
  unfold State.tick; repeat' split
  all_goals simp
@[simp] theorem State.tryAgent_phase (s : State) (a : AgentStep) : (s.tryAgent a).phase = s.phase := by
  unfold State.tryAgent; split <;> simp
@[simp] theorem State.tryBus_phase (s : State) : s.tryBus.phase = s.phase := by
  unfold State.tryBus; repeat' split
  all_goals simp
@[simp] theorem State.settle_phase (s : State) : s.settle.phase = s.phase := by simp [State.settle]
@[simp] theorem State.tick_phase (s : State) : s.tick.phase = s.phase := by
  unfold State.tick; repeat' split
  all_goals simp
@[simp] theorem State.tryAgent_paused (s : State) (a : AgentStep) : (s.tryAgent a).paused = s.paused := by
  unfold State.tryAgent; split <;> simp
@[simp] theorem State.tryBus_paused (s : State) : s.tryBus.paused = s.paused := by
  unfold State.tryBus; repeat' split
  all_goals simp
@[simp] theorem State.settle_paused (s : State) : s.settle.paused = s.paused := by simp [State.settle]
@[simp] theorem State.tick_paused (s : State) : s.tick.paused = s.paused := by
  unfold State.tick; repeat' split
  all_goals simp
@[simp] theorem State.tryAgent_busBuilt (s : State) (a : AgentStep) : (s.tryAgent a).busBuilt = s.busBuilt := by
  unfold State.tryAgent; split <;> simp
@[simp] theorem State.tryBus_busBuilt (s : State) : s.tryBus.busBuilt = s.busBuilt := by
  unfold State.tryBus; repeat' split
  all_goals simp
@[simp] theorem State.settle_busBuilt (s : State) : s.settle.busBuilt = s.busBuilt := by simp [State.settle]
@[simp] theorem State.tick_busBuilt (s : State) : s.tick.busBuilt = s.busBuilt := by
  unfold State.tick; repeat' split
  all_goals simp
@[simp] theorem State.tryAgent_halted (s : State) (a : AgentStep) : (s.tryAgent a).halted = s.halted := by
  unfold State.tryAgent; split <;> simp
@[simp] theorem State.tryBus_halted (s : State) : s.tryBus.halted = s.halted := by
  unfold State.tryBus; repeat' split
  all_goals simp
@[simp] theorem State.settle_halted (s : State) : s.settle.halted = s.halted := by simp [State.settle]
@[simp] theorem State.tick_halted (s : State) : s.tick.halted = s.halted := by
  unfold State.tick; repeat' split
  all_goals simp
@[simp] theorem State.tryAgent_clkExternal (s : State) (a : AgentStep) : (s.tryAgent a).clkExternal = s.clkExternal := by
  unfold State.tryAgent; split <;> simp
@[simp] theorem State.tryBus_clkExternal (s : State) : s.tryBus.clkExternal = s.clkExternal := by
  unfold State.tryBus; repeat' split
  all_goals simp
@[simp] theorem State.settle_clkExternal (s : State) : s.settle.clkExternal = s.clkExternal := by simp [State.settle]
@[simp] theorem State.tick_clkExternal (s : State) : s.tick.clkExternal = s.clkExternal := by
  unfold State.tick; repeat' split
  all_goals simp
@[simp] theorem State.tryAgent_phaseAligned (s : State) (a : AgentStep) : (s.tryAgent a).phaseAligned = s.phaseAligned := by
  unfold State.tryAgent; split <;> simp
@[simp] theorem State.tryBus_phaseAligned (s : State) : s.tryBus.phaseAligned = s.phaseAligned := by
  unfold State.tryBus; repeat' split
  all_goals simp
@[simp] theorem State.settle_phaseAligned (s : State) : s.settle.phaseAligned = s.phaseAligned := by simp [State.settle]
@[simp] theorem State.tick_phaseAligned (s : State) : s.tick.phaseAligned = s.phaseAligned := by
  unfold State.tick; repeat' split
  all_goals simp
@[simp] theorem State.tryAgent_divBus (s : State) (a : AgentStep) : (s.tryAgent a).divBus = s.divBus := by
  unfold State.tryAgent; split <;> simp
@[simp] theorem State.tryBus_divBus (s : State) : s.tryBus.divBus = s.divBus := by
  unfold State.tryBus; repeat' split
  all_goals simp
@[simp] theorem State.settle_divBus (s : State) : s.settle.divBus = s.divBus := by simp [State.settle]
@[simp] theorem State.tick_divBus (s : State) : s.tick.divBus = s.divBus := by
  unfold State.tick; repeat' split
  all_goals simp
@[simp] theorem State.tryAgent_divClk (s : State) (a : AgentStep) : (s.tryAgent a).divClk = s.divClk := by
  unfold State.tryAgent; split <;> simp
@[simp] theorem State.tryBus_divClk (s : State) : s.tryBus.divClk = s.divClk := by
  unfold State.tryBus; repeat' split
  all_goals simp
@[simp] theorem State.settle_divClk (s : State) : s.settle.divClk = s.divClk := by simp [State.settle]
@[simp] theorem State.tick_divClk (s : State) : s.tick.divClk = s.divClk := by
  unfold State.tick; repeat' split
  all_goals simp
@[simp] theorem State.tryAgent_seqs (s : State) (a : AgentStep) : (s.tryAgent a).seqs = s.seqs := by
  unfold State.tryAgent; split <;> simp
@[simp] theorem State.tryBus_seqs (s : State) : s.tryBus.seqs = s.seqs := by
  unfold State.tryBus; repeat' split
  all_goals simp
@[simp] theorem State.settle_seqs (s : State) : s.settle.seqs = s.seqs := by simp [State.settle]
@[simp] theorem State.tick_seqs (s : State) : s.tick.seqs = s.seqs := by
  unfold State.tick; repeat' split
  all_goals simp
@[simp] theorem State.tryAgent_conf (s : State) (a : AgentStep) : (s.tryAgent a).conf = s.conf := by
  unfold State.tryAgent; split <;> simp
@[simp] theorem State.tryBus_conf (s : State) : s.tryBus.conf = s.conf := by
  unfold State.tryBus; repeat' split
  all_goals simp
@[simp] theorem State.settle_conf (s : State) : s.settle.conf = s.conf := by simp [State.settle]
@[simp] theorem State.tick_conf (s : State) : s.tick.conf = s.conf := by
  unfold State.tick; repeat' split
  all_goals simp
@[simp] theorem State.tryAgent_plat (s : State) (a : AgentStep) : (s.tryAgent a).plat = s.plat := by
  unfold State.tryAgent; split <;> simp
@[simp] theorem State.tryBus_plat (s : State) : s.tryBus.plat = s.plat := by
  unfold State.tryBus; repeat' split
  all_goals simp
@[simp] theorem State.settle_plat (s : State) : s.settle.plat = s.plat := by simp [State.settle]
@[simp] theorem State.tick_plat (s : State) : s.tick.plat = s.plat := by
  unfold State.tick; repeat' split
  all_goals simp
@[simp] theorem State.tryAgent_result (s : State) (a : AgentStep) : (s.tryAgent a).result = s.result := by
  unfold State.tryAgent; split <;> simp
@[simp] theorem State.tryBus_result (s : State) : s.tryBus.result = s.result := by
  unfold State.tryBus; repeat' split
  all_goals simp
@[simp] theorem State.settle_result (s : State) : s.settle.result = s.result := by simp [State.settle]
@[simp] theorem State.tick_result (s : State) : s.tick.result = s.result := by
  unfold State.tick; repeat' split
  all_goals simp
@[simp] theorem State.tryAgent_todo (s : State) (a : AgentStep) : (s.tryAgent a).todo = s.todo := by
  unfold State.tryAgent; split <;> simp
@[simp] theorem State.tryBus_todo (s : State) : s.tryBus.todo = s.todo := by
  unfold State.tryBus; repeat' split
  all_goals simp
@[simp] theorem State.settle_todo (s : State) : s.settle.todo = s.todo := by simp [State.settle]
@[simp] theorem State.tick_todo (s : State) : s.tick.todo = s.todo := by
  unfold State.tick; repeat' split
  all_goals simp
@[simp] theorem State.tryAgent_inbox (s : State) (a : AgentStep) : (s.tryAgent a).inbox = s.inbox := by
  unfold State.tryAgent; split <;> simp
@[simp] theorem State.tryBus_inbox (s : State) : s.tryBus.inbox = s.inbox := by
  unfold State.tryBus; repeat' split
  all_goals simp
@[simp] theorem State.settle_inbox (s : State) : s.settle.inbox = s.inbox := by simp [State.settle]
@[simp] theorem State.tick_inbox (s : State) : s.tick.inbox = s.inbox := by
  unfold State.tick; repeat' split
  all_goals simp

/-! ### When no agent has a step -/

/-- Without a pending word or a waiting sample no agent has a step. -/
theorem State.enables_of_drained {s : State} (h : s.link.drained = true) (a : AgentStep) : s.enables a = false := by
  simp only [Link.drained, Bool.and_eq_true, Option.isNone_iff_eq_none] at h
  obtain ⟨⟨⟨⟨-, hc⟩, hd⟩, hy⟩, hr⟩ := h
  cases a <;> simp [State.enables, hc, hd, hy, hr]

/-- Nothing in flight: the agents change nothing. -/
theorem State.settle_of_drained {s : State} (h : s.link.drained = true) : s.settle = s := by
  simp [State.settle, State.tryBus, State.tryAgent, State.enables_of_drained h]

theorem Link.claimedIdle_drained : Link.claimedIdle.drained = true := rfl

/-- A drained link lets the hold pass at once. -/
theorem hold_of_drained {s : State} (h : s.link.drained = true) : hold s = some s := by
  have hb : s.link.anyBusy = false := by
    simp only [Link.drained, Bool.and_eq_true, Bool.not_eq_true'] at h
    exact h.1.1.1.1
  simp [hold, State.settle_of_drained h, hb]

/-- Everything an operation behind the hold can answer: the fault of a hold that never lifts, or what its body answers when the
agents have run. -/
theorem afterHold_cases (s : State) (body : State → Answer) :
    (s.settle.link.anyBusy = true ∧ afterHold s body = .fault .holdNeverLifts) ∨
    (s.settle.link.anyBusy = false ∧ afterHold s body = body s.settle) := by
  unfold afterHold hold
  cases h : s.settle.link.anyBusy <;> simp

/-- With nothing in flight the hold is not seen. -/
theorem afterHold_of_drained {s : State} (h : s.link.drained = true) (body : State → Answer) : afterHold s body = body s := by
  simp only [afterHold, hold_of_drained h]

/-! ### The reset pulse -/

/-- Holding the pulse adds an event or nothing, and changes nothing else (44_lifecycle R227). -/
theorem State.holdReset_eq (s : State) : s.holdReset =
    { s with trace := s.trace ++ if anyReal s.conf then [.resHold s.plat.resetHoldUs] else [] } := by
  unfold State.holdReset
  by_cases h : anyReal s.conf = true
  · rw [if_pos h, if_pos h]
    rfl
  · rw [if_neg h, if_neg h, List.append_nil]

/-- The pulse leaves `RES` deasserted, adds its two or three events, and changes nothing else (44_lifecycle R227). -/
theorem State.resetPulse_eq (s : State) : s.resetPulse =
    { s with
      pins := { s.pins with res := .deasserted }
      trace := s.trace ++ [.resAssert] ++ (if anyReal s.conf then [.resHold s.plat.resetHoldUs] else []) ++ [.resDeassert] } := by
  rw [State.resetPulse, State.holdReset_eq]
  rfl

/-- A chip is real exactly when `CHIP_REAL` holds a true (10_state R38). -/
theorem anyReal_iff (c : Conf) : anyReal c = true ↔ true ∈ c.chipReal.toList := by
  rw [Vector.mem_toList_iff, Vector.mem_iff_getElem]
  simp only [anyReal, Bool.or_eq_true, or_assoc]
  constructor
  · rintro (h | h | h | h)
    exacts [⟨0, by decide, h⟩, ⟨1, by decide, h⟩, ⟨2, by decide, h⟩, ⟨3, by decide, h⟩]
  · rintro ⟨i, hi, h⟩
    interval_cases i
    exacts [.inl h, .inr (.inl h), .inr (.inr (.inl h)), .inr (.inr (.inr h))]

/-! ### The environment -/

@[simp] theorem Env.follows_phiAlive (o n : Env) : (Env.follows o n).phiAlive = (o.phiAlive && n.phiAlive) := rfl
@[simp] theorem Env.follows_freeSeq (o n : Env) : (Env.follows o n).freeSeq = n.freeSeq := rfl
@[simp] theorem Env.follows_freeCh (o n : Env) : (Env.follows o n).freeCh = n.freeCh := rfl
@[simp] theorem Env.follows_chipAnswers (o n : Env) : (Env.follows o n).chipAnswers = n.chipAnswers := rfl
@[simp] theorem Env.follows_clkSamples (o n : Env) : (Env.follows o n).clkSamples = n.clkSamples := rfl

/-- Without an edge to come there is none whatever the environment answers from now on (60_exceptions R274). -/
theorem edgeAvailable_of_worldChange {s t : State} {e : Env} (h : worldChange e s = .next t)
    (hs : s.edgeAvailable = false) : t.edgeAvailable = false := by
  injection h with h
  subst h
  simp only [State.edgeAvailable, Env.follows_phiAlive] at hs ⊢
  revert hs
  cases s.clkExternal <;> cases s.env.phiAlive <;> simp

/-! ### The tests an operation makes first -/

/-- An idle, unhalted dispatcher on a built bus accepts the operations that need one. -/
theorem accept_built {s : State} (h : s.Ready) (body : State → Answer) : accept .built s body = body s := by
  obtain ⟨h1, h2, h3⟩ := h
  simp [accept, callRefusal, h1, h2, h3]

/-- An idle, unhalted dispatcher accepts the operations that do not care for the bus. -/
theorem accept_either {s : State} (h1 : s.phase = .idle) (h2 : s.halted = false) (body : State → Answer) :
    accept .either s body = body s := by
  simp [accept, callRefusal, h1, h2]

/-- An idle, unhalted dispatcher without a bus accepts the operations that need none built. -/
theorem accept_unbuilt {s : State} (h1 : s.phase = .idle) (h2 : s.halted = false) (h3 : s.busBuilt = false)
    (body : State → Answer) : accept .unbuilt s body = body s := by
  simp [accept, callRefusal, h1, h2, h3]

/-- What an accepted operation tells of the state before it. -/
theorem accept_next {need : BusNeed} {s t : State} {body : State → Answer} (h : accept need s body = .next t) :
    s.phase = .idle ∧ s.halted = false ∧ body s = .next t := by
  unfold accept callRefusal at h
  cases hp : s.phase <;> cases hh : s.halted <;> cases need <;> cases hb : s.busBuilt <;> simp_all

/-! ### Running tasks -/

@[simp] theorem runTasks_nil (s : State) : runTasks [] s = .next s := rfl

theorem runTasks_done {t : Task} {ts : List Task} {s s' : State} (h : runTask t s = .done s') :
    runTasks (t :: ts) s = runTasks ts s' := by simp [runTasks, h]

theorem runTasks_blocked {t : Task} {ts : List Task} {s s' : State} (h : runTask t s = .blocked s') :
    runTasks (t :: ts) s = .next { s' with todo := t :: ts } := by simp [runTasks, h]

end Sys2Proof.Machine
end

