-- ==== Sys2Proof/Laws/PerInstr.lean ====
section
/-! SUPPORT. The family `EncodedRow`: the opcode table has a row that the key of an operation's request selects and that
builds the operation back from the request (30_encoding R141). -/

namespace Sys2Proof.Laws.EncodedRow

open Sys2Proof

/-- Some row of the table is selected by the encoded key and gives the operation back. -/
def Statement (i : Instr) : Prop :=
  ∃ n, ∃ h : n < opTable.length,
    opTable[n].selects (encode i).key = true ∧ opTable[n].build (encode i) = i

theorem write (address data : Byte) : Statement (.write address data) := ⟨0, by decide, by simp [opTable, OpRow.selects, encode, Request.bare, Request.key], rfl⟩
theorem read (address data : Byte) : Statement (.read address data) := ⟨1, by decide, by simp [opTable, OpRow.selects, encode, Request.bare, Request.key], rfl⟩
theorem pause (address data : Byte) : Statement (.pause address data) := ⟨2, by decide, by simp [opTable, OpRow.selects, encode, Request.bare, Request.key], rfl⟩
theorem clearBus (address data : Byte) : Statement (.clearBus address data) := ⟨3, by decide, by simp [opTable, OpRow.selects, encode, Request.bare, Request.key], rfl⟩
theorem cycledDispatch (address data : Byte) (cycles : DelayWord) : Statement (.cycledDispatch address data cycles) := ⟨4, by decide, by simp [opTable, OpRow.selects, encode, Request.bare, Request.key], rfl⟩
theorem enable : Statement (.enable) := ⟨5, by decide, by simp [opTable, OpRow.selects, encode, Request.bare, Request.key], rfl⟩
theorem disable : Statement (.disable) := ⟨6, by decide, by simp [opTable, OpRow.selects, encode, Request.bare, Request.key], rfl⟩
theorem pauseToggle : Statement (.pauseToggle) := ⟨7, by decide, by simp [opTable, OpRow.selects, encode, Request.bare, Request.key], rfl⟩
theorem hardReset : Statement (.hardReset) := ⟨8, by decide, by simp [opTable, OpRow.selects, encode, Request.bare, Request.key], rfl⟩
theorem clearRegisters (chip : Byte) : Statement (.clearRegisters chip) := ⟨9, by decide, by simp [opTable, OpRow.selects, encode, Request.bare, Request.key], rfl⟩
theorem initPins : Statement (.initPins) := ⟨10, by decide, by simp [opTable, OpRow.selects, encode, Request.bare, Request.key], rfl⟩
theorem setupBus : Statement (.setupBus) := ⟨11, by decide, by simp [opTable, OpRow.selects, encode, Request.bare, Request.key], rfl⟩
theorem rebuildBus : Statement (.rebuildBus) := ⟨12, by decide, by simp [opTable, OpRow.selects, encode, Request.bare, Request.key], rfl⟩
theorem computeClockDivider (rate : Nat) : Statement (.computeClockDivider rate) := ⟨13, by decide, by simp [opTable, OpRow.selects, encode, Request.bare, Request.key], rfl⟩
theorem detectExternalClock : Statement (.detectExternalClock) := ⟨14, by decide, by simp [opTable, OpRow.selects, encode, Request.bare, Request.key], rfl⟩
theorem route (address : Byte) : Statement (.route address) := ⟨15, by decide, by simp [opTable, OpRow.selects, encode, Request.bare, Request.key], rfl⟩
theorem phaseSync : Statement (.phaseSync) := ⟨16, by decide, by simp [opTable, OpRow.selects, encode, Request.bare, Request.key], rfl⟩
theorem mute : Statement (.mute) := ⟨17, by decide, by simp [opTable, OpRow.selects, encode, Request.bare, Request.key], rfl⟩
theorem unmute : Statement (.unmute) := ⟨18, by decide, by simp [opTable, OpRow.selects, encode, Request.bare, Request.key], rfl⟩

end Sys2Proof.Laws.EncodedRow
end

