-- ==== Sys2Proof/Laws/Run.lean ====
section
/-! SUPPORT. What routing, a launched transaction and its wait can do, said once. -/

namespace Sys2Proof.Machine

/-! ### Routing -/

/-- Everything `route` can answer (43_router R210, R213, R214, R216). -/
theorem routeIn_cases (table : Vector Region 4) (a : Byte) :
    (128 ≤ a.toNat ∧ routeIn table a = .error .addressOutOfRange) ∨
    (a.toNat < 128 ∧ patternDisabled table[regionIndex a].pattern = true ∧ routeIn table a = .ok .disabled) ∨
    (a.toNat < 128 ∧ patternReserved table[regionIndex a].pattern = true ∧ routeIn table a = .error .reservedPattern) ∨
    (a.toNat < 128 ∧ patternDisabled table[regionIndex a].pattern = false ∧
      table[regionIndex a].pattern.getLsbD 0 = false ∧
      routeIn table a = .ok (.entry (maskAddress table[regionIndex a].mask a) table[regionIndex a].pattern)) := by
  unfold routeIn
  by_cases h : a.toNat < 128
  · simp only [routable, h, decide_true, ↓reduceIte, true_and]
    cases hd : patternDisabled table[regionIndex a].pattern with
    | true => simp
    | false =>
      cases hr : patternReserved table[regionIndex a].pattern with
      | true => simp
      | false => simpa using enabled_pattern_bit0 _ hd hr
  · simp only [routable, h, decide_false, Bool.false_eq_true, ↓reduceIte, false_and, or_false]
    exact ⟨by omega, trivial⟩

/-- An address that routes to an entry is in range and its pattern has bit 0 clear (43_router R217). -/
theorem routeIn_entry {table : Vector Region 4} {a : Byte} {m : BusAddr} {p : Select}
    (h : routeIn table a = .ok (.entry m p)) :
    a.toNat < 128 ∧ m = maskAddress table[regionIndex a].mask a ∧ p = table[regionIndex a].pattern ∧
      p.getLsbD 0 = false := by
  rcases routeIn_cases table a with ⟨-, h'⟩ | ⟨-, -, h'⟩ | ⟨-, -, h'⟩ | ⟨ha, -, hb, h'⟩ <;> rw [h] at h' <;> cases h'
  exact ⟨ha, rfl, rfl, hb⟩

/-! ### The clock and the sequencers -/

@[simp] theorem State.perform_edgeAvailable (s : State) (a : AgentStep) :
    (s.perform a).edgeAvailable = s.edgeAvailable := by
  cases a <;> simp only [State.perform] <;> split <;> rfl
@[simp] theorem State.tryAgent_edgeAvailable (s : State) (a : AgentStep) :
    (s.tryAgent a).edgeAvailable = s.edgeAvailable := by
  unfold State.tryAgent; split <;> simp
@[simp] theorem State.tryBus_edgeAvailable (s : State) : s.tryBus.edgeAvailable = s.edgeAvailable := by
  unfold State.tryBus; repeat' split
  all_goals simp
@[simp] theorem State.settle_edgeAvailable (s : State) : s.settle.edgeAvailable = s.edgeAvailable := by
  simp [State.settle]
@[simp] theorem State.settle_busSequencersRun (s : State) : s.settle.busSequencersRun = s.busSequencersRun := by
  simp [State.busSequencersRun]

/-- Without a bus nothing is claimed, loaded or running, unless bring-up was fatal (46_resync R259). -/
theorem ControllerInv.released {s : State} (hi : ControllerInv s) (hb : s.busBuilt = false) (hh : s.halted = false) :
    s.fullyReleased = true := hi.2.2.2.2.2.2.2.2.2.2.2 hb hh

/-- The teardown releases every sequencer and every channel (46_resync R255, R259). -/
@[simp] theorem State.teardown_fullyReleased (s : State) : s.teardown.fullyReleased = true := rfl

/-- On a built bus every sequencer runs (46_resync R259). -/
theorem ControllerInv.running {s : State} (hi : ControllerInv s) (hr : s.Ready) :
    s.busSequencersRun = true ∧ s.seqs.dly.running = true := by
  have hf := hi.2.2.2.1 hr.2.2
  simp only [State.fullyClaimed, Bool.and_eq_true] at hf
  simp [State.busSequencersRun, hr.2.2, hf]

/-! ### The agents do not see the fields they leave alone -/

/-- An update that no agent step sees can be made before or after the agents run. -/
theorem State.settle_commutes {f : State → State} (hE : ∀ s a, (f s).enables a = s.enables a)
    (hP : ∀ s a, (f s).perform a = f (s.perform a)) (s : State) : (f s).settle = f s.settle := by
  have hT : ∀ s a, (f s).tryAgent a = f (s.tryAgent a) := by
    intro s a
    unfold State.tryAgent
    rw [hE, hP]
    split <;> rfl
  have hB : ∀ s, (f s).tryBus = f s.tryBus := by
    intro s
    simp only [State.tryBus, hE, hP, hT]
    repeat' split
    all_goals rfl
  simp only [State.settle, hT, hB]

theorem State.settle_with_result (s : State) (r : Result) :
    ({ s with result := r } : State).settle = { s.settle with result := r } := by
  refine State.settle_commutes (f := fun s => { s with result := r }) ?_ ?_ s <;> intro s a <;> cases a
  all_goals first | rfl | (simp only [State.perform]; split <;> rfl)

theorem State.settle_with_inbox (s : State) (l : List Stimulus) :
    ({ s with inbox := l } : State).settle = { s.settle with inbox := l } := by
  refine State.settle_commutes (f := fun s => { s with inbox := l }) ?_ ?_ s <;> intro s a <;> cases a
  all_goals first | rfl | (simp only [State.perform]; split <;> rfl)

theorem State.settle_with_todo (s : State) (l : List Task) :
    ({ s with todo := l } : State).settle = { s.settle with todo := l } := by
  refine State.settle_commutes (f := fun s => { s with todo := l }) ?_ ?_ s <;> intro s a <;> cases a
  all_goals first | rfl | (simp only [State.perform]; split <;> rfl)

theorem State.settle_with_phase (s : State) (p : Phase) :
    ({ s with phase := p } : State).settle = { s.settle with phase := p } := by
  refine State.settle_commutes (f := fun s => { s with phase := p }) ?_ ?_ s <;> intro s a <;> cases a
  all_goals first | rfl | (simp only [State.perform]; split <;> rfl)

theorem State.settle_with_shadow (s : State) (m : List Host.Cell) :
    ({ s with shadow := m } : State).settle = { s.settle with shadow := m } := by
  refine State.settle_commutes (f := fun s => { s with shadow := m }) ?_ ?_ s <;> intro s a <;> cases a
  all_goals first | rfl | (simp only [State.perform]; split <;> rfl)

theorem State.settle_with_volCache (s : State) (v : Vector Byte 4) :
    ({ s with volCache := v } : State).settle = { s.settle with volCache := v } := by
  refine State.settle_commutes (f := fun s => { s with volCache := v }) ?_ ?_ s <;> intro s a <;> cases a
  all_goals first | rfl | (simp only [State.perform]; split <;> rfl)

theorem State.settle_with_paused (s : State) (b : Bool) :
    ({ s with paused := b } : State).settle = { s.settle with paused := b } := by
  refine State.settle_commutes (f := fun s => { s with paused := b }) ?_ ?_ s <;> intro s a <;> cases a
  all_goals first | rfl | (simp only [State.perform]; split <;> rfl)

/-- A wait for a channel that is already done, with nothing in flight, changes nothing. -/
theorem await_of_drained {s : State} (w : WaitPoint) (hd : s.link.drained = true) (hp : s.phase = .idle) :
    await w s = .done s := by
  have hb : w.busy s.link = false := by
    simp only [Link.drained, Link.anyBusy, Bool.and_eq_true, Bool.not_eq_true', Bool.or_eq_false_iff] at hd
    obtain ⟨⟨⟨⟨⟨⟨⟨h1, h2⟩, h3⟩, h4⟩, -⟩, -⟩, -⟩, -⟩ := hd
    cases w <;> assumption
  simp only [await, State.settle_with_phase, State.settle_of_drained hd, hb, Bool.false_eq_true, ↓reduceIte, ← hp]

/-- A wait that blocked, tried again without any move in between, blocks in the same state. -/
theorem await_again {s t : State} {w : WaitPoint} (h : await w s = .blocked t) (hq : ∀ a, t.enables a = false) :
    await w t = .blocked t := by
  simp only [await] at h
  split at h
  · rename_i hb
    injection h with h
    subst h
    have hs : ∀ u : State, (∀ a, u.enables a = false) → u.settle = u := by
      intro u hu
      simp [State.settle, State.tryBus, State.tryAgent, hu]
    have hph : ({ ({ s with phase := w.phase } : State).settle with phase := w.phase } : State) =
        ({ s with phase := w.phase } : State).settle := by rw [← State.settle_with_phase]
    simp only [await, hph, hs _ hq, hb, ↓reduceIte]
  · cases h

/-! ### A launched transaction and its wait, from idle channels (41_dispatcher R181 to R183, 20_memory R80 to R86) -/

/-- The wait of a WRITE with an edge to come ends with the write executed. -/
theorem await_loadWrite {s : State} {m : BusAddr} {p : Select} (a d : Byte) (hl : s.link = Link.claimedIdle)
    (hs : s.busSequencersRun = true) (he : s.edgeAvailable = true) (hp : p.getLsbD 0 = false) :
    await .ctrl (s.loadWrite m p a d) = .done { s with
      cells := { s.cells with cw := packControl cwBase p, dw := packData dirWrite m d }
      shadow := Memory.write s.shadow a.toNat d
      phase := .idle
      pins := { s.pins with rw := false, cs1 := true, cs2 := true, dir := 0x3FFF#14, out := m ++ d }
      trace := s.trace ++ [.busWrite p m d .gated] } := by
  replace hp : p[0] = false := by simpa using hp
  simp only [State.edgeAvailable] at he
  simp only [State.busSequencersRun] at hs
  rcases s with ⟨cells, shadow, volCache, phase, paused, bb, halted, ce, pa, db, dc, seqs, link, pins, conf, trace, plat,
    env, result, todo, inbox, draws⟩
  subst hl
  simp [await, State.settle, State.tryAgent, State.tryBus, State.enables, State.perform, State.loadWrite, State.setWords,
    State.setShadow, State.armGates, State.triggerBoth, State.triggerData, State.triggerCtrl, Link.claimedIdle,
    State.busSequencersRun, State.edgeAvailable, Link.bothArmed, Link.bothOpen, State.runJointWrite, Link.wordsDone,
    WaitPoint.busy, WaitPoint.phase, hs, he, hp, Pins.driveWord, Pins.driveControl, Pins.driveData, dirWrite]

/-- Without an edge to come that wait blocks, everything as the launch left it (60_exceptions R274). -/
theorem await_loadWrite_stuck {s : State} {m : BusAddr} {p : Select} (a d : Byte) (hl : s.link = Link.claimedIdle)
    (he : s.edgeAvailable = false) (hp : p.getLsbD 0 = false) :
    await .ctrl (s.loadWrite m p a d) = .blocked { s.loadWrite m p a d with phase := .waitCtrl } := by
  replace hp : p[0] = false := by simpa using hp
  simp only [State.edgeAvailable] at he
  rcases s with ⟨cells, shadow, volCache, phase, paused, bb, halted, ce, pa, db, dc, seqs, link, pins, conf, trace, plat,
    env, result, todo, inbox, draws⟩
  subst hl
  simp [await, State.settle, State.tryAgent, State.tryBus, State.enables, State.loadWrite, State.setWords,
    State.setShadow, State.armGates, State.triggerBoth, State.triggerData, State.triggerCtrl, Link.claimedIdle,
    State.edgeAvailable, Link.bothArmed, Link.bothOpen, WaitPoint.busy, WaitPoint.phase, he, hp]

/-- The wait of a READ with an edge to come ends with the read executed and its sample in `RR`. -/
theorem await_loadRead {s : State} (m : BusAddr) (p : Select) (d : Byte) (hl : s.link = Link.claimedIdle)
    (hs : s.busSequencersRun = true) (he : s.edgeAvailable = true) :
    await .rx (s.loadRead m p d) = .done { s with
      cells := { s.cells with
        cw := packControl cwBase p ||| cwReadBit, dw := packData dirRead m d
        rrTop := s.chipByte (p ||| 0b001#3) m, rrLow := Config.rrLow s.draws }
      phase := .idle
      pins := { s.pins with rw := false, cs1 := true, cs2 := true, dir := 0x3F00#14, out := m ++ d }
      trace := s.trace ++ [.busRead (p ||| 0b001#3) m (s.chipByte (p ||| 0b001#3) m)]
      env := { s.env with chipAnswers := s.env.chipAnswers.tail }
      draws := s.draws + 1 } := by
  simp only [State.edgeAvailable] at he
  simp only [State.busSequencersRun] at hs
  rcases s with ⟨cells, shadow, volCache, phase, paused, bb, halted, ce, pa, db, dc, seqs, link, pins, conf, trace, plat,
    env, result, todo, inbox, draws⟩
  subst hl
  simp [await, State.settle, State.tryAgent, State.tryBus, State.enables, State.perform, State.loadRead, State.setWords,
    State.armGates, State.triggerBoth, State.triggerData, State.triggerCtrl, State.triggerReceive, Link.claimedIdle,
    State.busSequencersRun, State.edgeAvailable, Link.bothArmed, Link.bothOpen, State.runJointRead, State.runReceive,
    Link.wordsDone, WaitPoint.busy, WaitPoint.phase, hs, he, Pins.driveWord, Pins.driveControl, Pins.driveData, dirRead,
    State.chipByte]

/-- Without an edge to come that wait blocks, everything as the launch left it. -/
theorem await_loadRead_stuck {s : State} (m : BusAddr) (p : Select) (d : Byte) (hl : s.link = Link.claimedIdle)
    (he : s.edgeAvailable = false) :
    await .rx (s.loadRead m p d) = .blocked { s.loadRead m p d with phase := .waitRx } := by
  simp only [State.edgeAvailable] at he
  rcases s with ⟨cells, shadow, volCache, phase, paused, bb, halted, ce, pa, db, dc, seqs, link, pins, conf, trace, plat,
    env, result, todo, inbox, draws⟩
  subst hl
  simp [await, State.settle, State.tryAgent, State.tryBus, State.enables, State.loadRead, State.setWords,
    State.armGates, State.triggerBoth, State.triggerData, State.triggerCtrl, State.triggerReceive, Link.claimedIdle,
    State.edgeAvailable, Link.bothArmed, Link.bothOpen, WaitPoint.busy, WaitPoint.phase, he]

/-- The wait of a PAUSE always ends: a control-only transaction needs no edge. -/
theorem await_loadPause {s : State} (hl : s.link = Link.claimedIdle) (hs : s.busSequencersRun = true) :
    await .ctrl s.loadPause = .done { s with
      cells := { s.cells with cw := cwPause }
      phase := .idle
      pins := { s.pins with rw := false, cs1 := true, cs2 := true }
      trace := s.trace ++ [.busCtl 0b110#3 0b110#3] } := by
  simp only [State.busSequencersRun, Bool.and_eq_true] at hs
  obtain ⟨⟨h1, h2⟩, -⟩ := hs
  rcases s with ⟨cells, shadow, volCache, phase, paused, bb, halted, ce, pa, db, dc, seqs, link, pins, conf, trace, plat,
    env, result, todo, inbox, draws⟩
  subst hl
  simp only at h1 h2
  simp [await, State.settle, State.tryAgent, State.tryBus, State.enables, State.perform, State.loadPause,
    State.triggerCtrl, Link.claimedIdle, State.runCtlOnly, WaitPoint.busy, WaitPoint.phase, h1, h2, Pins.driveWord,
    Pins.driveControl]

/-- The data word of a CLEAR_BUS is executed as soon as the agents run. -/
theorem settle_loadClear {s : State} (hl : s.link = Link.claimedIdle) (hs : s.busSequencersRun = true) :
    s.loadClear.settle = { s with
      cells := { s.cells with dw := dwClear }
      pins := { s.pins with dir := 0#14, out := 0#14 }
      trace := s.trace ++ [.busData 0x0000#16 0x0000#16] } := by
  simp only [State.busSequencersRun, Bool.and_eq_true] at hs
  obtain ⟨⟨h1, -⟩, h3⟩ := hs
  rcases s with ⟨cells, shadow, volCache, phase, paused, bb, halted, ce, pa, db, dc, seqs, link, pins, conf, trace, plat,
    env, result, todo, inbox, draws⟩
  subst hl
  simp only at h1 h3
  simp [State.settle, State.tryAgent, State.tryBus, State.enables, State.perform, State.loadClear, State.triggerData,
    Link.claimedIdle, State.runDataOnly, h1, h3, Pins.driveData, dwClear, dwDir, dwOut, dwDirMask, dwValues]

/-- The words of a timed write without a delay are executed as soon as the agents run, with no edge needed. -/
theorem settle_loadCycled {s : State} {m : BusAddr} {p : Select} (d : Byte) (hl : s.link = Link.claimedIdle)
    (hs : s.busSequencersRun = true) (hp : p.getLsbD 0 = false) :
    (s.loadCycled m p d).settle = { s with
      cells := { s.cells with cw := packControl cwBaseCycled p, dw := packData dirWrite m d }
      pins := { s.pins with rw := true, cs1 := true, cs2 := true, dir := 0x3FFF#14, out := m ++ d }
      trace := s.trace ++ [.busWrite p m d .ungated] } := by
  replace hp : p[0] = false := by simpa using hp
  simp only [State.busSequencersRun] at hs
  rcases s with ⟨cells, shadow, volCache, phase, paused, bb, halted, ce, pa, db, dc, seqs, link, pins, conf, trace, plat,
    env, result, todo, inbox, draws⟩
  subst hl
  simp [State.settle, State.tryAgent, State.tryBus, State.enables, State.perform, State.loadCycled, State.setWords,
    State.triggerBoth, State.triggerData, State.triggerCtrl, Link.claimedIdle, State.busSequencersRun, Link.bothArmed,
    Link.bothOpen, State.runJointWrite, Link.wordsDone, hs, hp, Pins.driveWord, Pins.driveControl, Pins.driveData, dirWrite]

/-- A delay runs out, then a waiting pair of words is executed. -/
theorem settle_loadDelay_loadCycled {s : State} {m : BusAddr} {p : Select} (d : Byte) (n : DelayWord)
    (hl : s.link = Link.claimedIdle) (hs : s.busSequencersRun = true) (hy : s.seqs.dly.running = true)
    (hp : p.getLsbD 0 = false) :
    ((s.loadDelay n).loadCycled m p d).settle = { s with
      cells := { s.cells with cw := packControl cwBaseCycled p, dw := packData dirWrite m d, dlw := n }
      pins := { s.pins with rw := true, cs1 := true, cs2 := true, dir := 0x3FFF#14, out := m ++ d }
      trace := s.trace ++ [.delay n] ++ [.busWrite p m d .ungated] } := by
  replace hp : p[0] = false := by simpa using hp
  simp only [State.busSequencersRun] at hs
  rcases s with ⟨cells, shadow, volCache, phase, paused, bb, halted, ce, pa, db, dc, seqs, link, pins, conf, trace, plat,
    env, result, todo, inbox, draws⟩
  subst hl
  simp only at hy
  simp [State.settle, State.tryAgent, State.tryBus, State.enables, State.perform, State.loadCycled, State.loadDelay,
    State.setWords, State.triggerBoth, State.triggerData, State.triggerCtrl, State.triggerDelay, Link.claimedIdle,
    State.busSequencersRun, Link.bothArmed, Link.bothOpen, State.runJointWrite, State.runDelay, Link.wordsDone, hs, hp, hy,
    Pins.driveWord, Pins.driveControl, Pins.driveData, dirWrite]

/-- A delay alone runs out as soon as the agents run. -/
theorem settle_loadDelay {s : State} (n : DelayWord) (hl : s.link = Link.claimedIdle) (hy : s.seqs.dly.running = true) :
    (s.loadDelay n).settle = { s with cells := { s.cells with dlw := n }, trace := s.trace ++ [.delay n] } := by
  rcases s with ⟨cells, shadow, volCache, phase, paused, bb, halted, ce, pa, db, dc, seqs, link, pins, conf, trace, plat,
    env, result, todo, inbox, draws⟩
  subst hl
  simp only at hy
  simp [State.settle, State.tryAgent, State.tryBus, State.enables, State.perform, State.loadDelay, State.triggerDelay,
    Link.claimedIdle, State.runDelay, hy]

/-! ### What a launch and a build can do -/

/-- Everything the launch of a WRITE can do once the hold is over (41_dispatcher R181); it never blocks. -/
theorem launchWrite_cases {s u : State} (a d : Byte) (h : hold s = some u) :
    (128 ≤ a.toNat ∧ launchWrite a d s = .refused .addressOutOfRange) ∨
    (routeIn u.conf.region a = .ok .disabled ∧ launchWrite a d s = .done u) ∨
    (routeIn u.conf.region a = .error .reservedPattern ∧ launchWrite a d s = .refused .reservedPattern) ∨
    ∃ m p, routeIn u.conf.region a = .ok (.entry m p) ∧ launchWrite a d s = .done (u.loadWrite m p a d) := by
  simp only [launchWrite, h]
  rcases routeIn_cases u.conf.region a with ⟨ha, e⟩ | ⟨-, -, e⟩ | ⟨-, -, e⟩ | ⟨-, -, -, e⟩ <;> simp only [e]
  · exact .inl ⟨ha, trivial⟩
  · exact .inr (.inl ⟨trivial, trivial⟩)
  · exact .inr (.inr (.inl ⟨trivial, trivial⟩))
  · exact .inr (.inr (.inr ⟨_, _, rfl, rfl⟩))

/-- A turn of the mute pass is a cache write and the launch of a WRITE (44_lifecycle R222). -/
theorem launchMute_eq {chip : Nat} (h : chip < 4) (s : State) :
    launchMute chip s = launchWrite (volumeAddress chip) (mutedByte (s.shadowAt (volumeAddress chip)))
      { s with volCache := s.volCache.set chip (s.shadowAt (volumeAddress chip)) h } := by
  simp only [launchMute, h, ↓reduceDIte]

/-- A turn of the unmute pass is a cache write and the launch of a WRITE (44_lifecycle R223). -/
theorem launchUnmute_eq {chip : Nat} (h : chip < 4) (s : State) :
    launchUnmute chip s = launchWrite (volumeAddress chip) (unmutedByte (s.volCache[chip]'h))
      { s with volCache := s.volCache.set chip (unmutedByte (s.volCache[chip]'h)) h } := by
  simp only [launchUnmute, h, ↓reduceDIte]

@[simp] theorem divQuant_identity (d : Rat) : divQuant .identity d = d := rfl
@[simp] theorem divQuant_rounding (n : Nat) (d : Rat) : divQuant (.rounding n) d = Config.divRounding n d := rfl

/-- The dividers of a positive rate, in the two forms of 45_clock R240. -/
theorem computeDividers_pos (p : Platform) {rate : Nat} (h : 0 < rate) :
    computeDividers p rate = .ok (busDivider p rate, clkDivider p rate) := by
  have h0 : (rate : Rat) ≠ 0 := by positivity
  have hb : p.sysClkHz / ((rate : Rat) * 32) / 2 = p.sysClkHz / (64 * rate) := by field_simp; ring
  have hc : p.sysClkHz / ((rate : Rat) * 2) = p.sysClkHz / (2 * rate) := by rw [mul_comm]
  rw [computeDividers, if_neg (Nat.pos_iff_ne_zero.mp h), hb, hc, busDivider, clkDivider]

/-- Everything the body of `setupBus` can do (40_bringup R161, R162): a refusal for a zero rate, one of the two fatal ends, or
a built bus. -/
theorem buildBus_cases (s : State) :
    (s.conf.clockRate = 0 ∧ buildBus s = .refused .zeroRate) ∨
    ∃ divBus divClk, computeDividers s.plat s.conf.clockRate = .ok (divBus, divClk) ∧
      ((s.env.freeSeq < 4 ∧
        buildBus s = .next (raiseFatal .sequencer { s with divBus := divBus, divClk := divClk })) ∨
      (4 ≤ s.env.freeSeq ∧ s.env.freeCh < 4 ∧ buildBus s = .next (raiseFatal .channel
        (({ s with divBus := divBus, divClk := divClk } : State).claimSequencers divBus divClk))) ∨
      (4 ≤ s.env.freeSeq ∧ 4 ≤ s.env.freeCh ∧ buildBus s = .next
        ((({ s with divBus := divBus, divClk := divClk } : State).claimSequencers divBus divClk).finishBuild divBus divClk))) := by
  unfold buildBus
  cases h : computeDividers s.plat s.conf.clockRate with
  | error r =>
    unfold computeDividers at h
    split at h
    · cases h; exact .inl ⟨by assumption, rfl⟩
    · cases h
  | ok d =>
    refine .inr ⟨d.1, d.2, rfl, ?_⟩
    have e : (({ s with divBus := d.1, divClk := d.2 } : State).claimSequencers d.1 d.2).env = s.env := rfl
    by_cases h1 : s.env.freeSeq < 4
    · exact .inl ⟨h1, by simp only [h1, ↓reduceIte]⟩
    · by_cases h2 : s.env.freeCh < 4
      · exact .inr (.inl ⟨by omega, h2, by simp only [h1, e, h2, ↓reduceIte]⟩)
      · exact .inr (.inr ⟨by omega, by omega, by simp only [h1, e, h2, ↓reduceIte]⟩)

end Sys2Proof.Machine
end

