-- ==== Sys2Proof/Tests/Slice0.lean ====
section
/-! SUPPORT. Tests: ill-formed operands refused, words written out from the encoding, one or two steps per operation with the
expected values of 95_test_vectors, and a state that meets the hypotheses of each statement. -/

namespace Sys2Proof.Tests

open Sys2Proof Sys2Proof.Machine

set_option maxRecDepth 10000
set_option synthInstance.maxHeartbeats 200000
set_option synthInstance.maxSize 2000

/-! ### Helpers -/

/-- A claimed, loaded and running sequencer. -/
def upSeq (d : Rat) : SequencerState := ⟨true, true, true, 0, 0, d⟩

/-- Power-on with the platform of 95_test_vectors: 125 MHz, the default register table. -/
def stateOn : State :=
  { State.reset with plat := ⟨125000000, defaultRegTable, 10, .identity, true, true⟩, env := ⟨false, 4, 4, [0xA5#8], []⟩ }

/-- The standard start state `S_BU` of 95_test_vectors (with an empty trace), `ChipSample` answering 0xA5. -/
def stateBU : State :=
  { stateOn with
    busBuilt := true, phaseAligned := true, divBus := 125/64, divClk := 125/2
    seqs := ⟨upSeq (125/64), upSeq (125/64), upSeq (125/2), upSeq (125/64)⟩
    link := Link.claimedIdle
    pins := State.reset.pins.initialised }

/-- `S_BU` with an external clock that is not there (V-E4). -/
def stateStuck : State := { stateBU with clkExternal := true }

/-- `S_BU` with a volume in both chips (V-L rows). -/
def stateVol : State := { stateBU with shadow := [(0x18, 0x1F#8), (0x38, 0x0A#8)] }

/-- `S_BU` with another pattern in region 0. -/
def stateReg0 (p : Select) : State :=
  { stateBU with conf := { stateBU.conf with region := stateBU.conf.region.set 0 ⟨0x1F#8, p⟩ } }

/-- A check on the next state an answer gives. -/
def after (o : Answer) (f : State → Bool) : Bool := match o with | .next s => f s | .fault _ => false | .refused _ => false

/-- The state an answer gives. -/
def nextOf (o : Answer) : State := match o with | .next s => s | .fault _ => State.reset | .refused _ => State.reset

/-! ### Well-formedness: one ill-formed term per check -/

theorem test_wf_write : Instr.wellFormed (.write 0x80#8 0x00#8) = false := by decide
theorem test_wf_read : Instr.wellFormed (.read 0xFF#8 0x00#8) = false := by decide
theorem test_wf_route : Instr.wellFormed (.route 0x80#8) = false := by decide
theorem test_wf_cycled_range : Instr.wellFormed (.cycledDispatch 0x80#8 0xFF#8 9#16) = false := by decide
theorem test_wf_cycled_sentinel : Instr.wellFormed (.cycledDispatch 0xFF#8 0xFF#8 0#16) = false := by decide
theorem test_wf_chip : Instr.wellFormed (.clearRegisters 4#8) = false := by decide
theorem test_wf_rate : Instr.wellFormed (.computeClockDivider 0) = false := by decide
theorem test_wf_good : Instr.WellFormed (.cycledDispatch 0xFF#8 0xFF#8 1#16) ∧ Instr.WellFormed (.write 0x7F#8 0#8) := by
  decide

/-! ### Decoding: words written out from 30_encoding R121, R124 -/

theorem test_decode_write : decodeTableWord 32 0x0F180010 = some (.write 0x18#8 0x0F#8) := by decide
theorem test_decode_read : decodeTableWord 32 0x771B0011 = some (.read 0x1B#8 0x77#8) := by decide
theorem test_decode_pause : decodeTableWord 32 0xCDAB0012 = some (.pause 0xAB#8 0xCD#8) := by decide
theorem test_decode_clearBus : decodeTableWord 16 0x0013 = some (.clearBus 0#8 0#8) := by decide
theorem test_decode_cycled : decodeTableWord 48 0x000821040100 = some (.cycledDispatch 0x04#8 0x21#8 8#16) := by decide
theorem test_decode_enable : decodeTableWord 16 0x0200 = some .enable := by decide
theorem test_decode_disable : decodeTableWord 16 0x03FF = some .disable := by decide
theorem test_decode_pauseToggle : decodeTableWord 16 0x0400 = some .pauseToggle := by decide
theorem test_decode_hardReset : decodeTableWord 16 0x0520 = some .hardReset := by decide
theorem test_decode_clearRegisters : decodeTableWord 56 0x03000000000600 = some (.clearRegisters 3#8) := by decide
theorem test_decode_initPins : decodeTableWord 16 0x0700 = some .initPins := by decide
theorem test_decode_setupBus : decodeTableWord 16 0x0800 = some .setupBus := by decide
theorem test_decode_rebuildBus : decodeTableWord 16 0x0900 = some .rebuildBus := by decide
theorem test_decode_divider : decodeTableWord 80 0x0F08A000000000000A00 = some (.computeClockDivider 985248) := by decide
theorem test_decode_detect : decodeTableWord 16 0x0B00 = some .detectExternalClock := by decide
theorem test_decode_route : decodeTableWord 24 0x380C00 = some (.route 0x38#8) := by decide
theorem test_decode_phaseSync : decodeTableWord 16 0x0D00 = some .phaseSync := by decide
theorem test_decode_mute : decodeTableWord 16 0x0E00 = some .mute := by decide
theorem test_decode_unmute : decodeTableWord 16 0x0F00 = some .unmute := by decide
theorem test_decode_none : decodeTableWord 16 0x0014 = none ∧ decodeTableWord 16 0x0020 = none ∧
    decodeTableWord 16 0x1010 = none := by decide

/-! ### One step of each operation (95_test_vectors; the row is named) -/

/-- V-D1 -/
theorem test_write : after (exec (.write 0x18#8 0x0F#8) stateBU) (fun s =>
    s.cells.cw == 0x0034#16 && s.cells.dw == 0xFFFF180F#32 && s.shadowAt 0x18#8 == 0x0F#8 && s.pins.dir == 0x3FFF#14 &&
    s.pins.out == 0x180F#14 && s.trace == [.busWrite 0b100#3 0x18#6 0x0F#8 .gated] && s.isFinal) = true := by decide
/-- V-D3 -/
theorem test_write_top : after (exec (.write 0x3F#8 0xFF#8) stateBU) (fun s =>
    s.cells.cw == 0x0032#16 && s.cells.dw == 0xFFFF1FFF#32 &&
    s.trace == [.busWrite 0b010#3 0x1F#6 0xFF#8 .gated]) = true := by decide
/-- V-D8 -/
theorem test_read : after (exec (.read 0x1B#8 0x00#8) stateBU) (fun s =>
    s.cells.cw == 0x0035#16 && s.cells.dw == 0xFF001B00#32 && s.cells.rrTop == 0xA5#8 && s.shadowAt 0x1B#8 == 0xA5#8 &&
    s.pins.dir == 0x3F00#14 && s.trace == [.busRead 0b101#3 0x1B#6 0xA5#8] && s.result == .byte 0xA5#8) = true := by decide
/-- V-D9: the data operand is packed, not driven -/
theorem test_read_data : after (exec (.read 0x3C#8 0x77#8) stateBU) (fun s =>
    s.cells.dw == 0xFF001C77#32 && s.trace == [.busRead 0b011#3 0x1C#6 0xA5#8]) = true := by decide
/-- V-D10 -/
theorem test_pause : after (exec (.pause 0xAB#8 0xCD#8) stateBU) (fun s =>
    s.cells.cw == 0x0036#16 && s.cells.dw == 0#32 && s.trace == [.busCtl 0b110#3 0b110#3] && s.isFinal) = true := by decide
/-- V-D11 -/
theorem test_clearBus : after (exec (.clearBus 0#8 0#8) (nextOf (exec (.write 0x18#8 0x0F#8) stateBU))) (fun s =>
    s.cells.dw == 0#32 && s.pins.dir == 0x3FFF#14 && !s.isFinal && s.settle.pins.dir == 0#14 &&
    s.settle.trace == [.busWrite 0b100#3 0x18#6 0x0F#8 .gated, .busData 0x0000#16 0x0000#16]) = true := by decide
/-- V-C2 -/
theorem test_cycled : after (exec (.cycledDispatch 0x04#8 0x21#8 8#16) stateBU) (fun s =>
    s.cells.cw == 0x003C#16 && s.cells.dlw == 8#16 && s.trace == [] && s.settle.pins.rw &&
    s.settle.trace == [.delay 8#16, .busWrite 0b100#3 0x04#6 0x21#8 .ungated]) = true := by decide
/-- V-C7: the sentinel only waits -/
theorem test_cycled_sentinel : after (exec (.cycledDispatch 0xFF#8 0xFF#8 100#16) stateBU) (fun s =>
    s.cells.dlw == 0x0064#16 && s.cells.cw == 0#16 && s.shadow == [] && s.trace == [.delay 100#16]) = true := by decide
/-- 44_lifecycle R223: a zero low nibble is forced to 0xE, the high nibble kept; program P1 line 1 -/
theorem test_enable : after (exec .enable { stateBU with volCache := #v[0x10#8, 0x0A#8, 0#8, 0#8], paused := true }) (fun s =>
    s.trace == [.resDeassert, .busWrite 0b100#3 0x18#6 0x1E#8 .gated, .busWrite 0b010#3 0x18#6 0x0A#8 .gated] &&
    s.volCache == #v[0x1E#8, 0x0A#8, 0#8, 0#8] && !s.paused && s.lifecycle == .enabled) = true := by decide +kernel
/-- Program P2 line 5 -/
theorem test_disable : after (exec .disable stateVol) (fun s =>
    s.trace == [.busWrite 0b100#3 0x18#6 0x10#8 .gated, .busWrite 0b010#3 0x18#6 0x00#8 .gated, .csRelease, .resAssert] &&
    s.volCache == #v[0x1F#8, 0x0A#8, 0#8, 0#8] && s.lifecycle == .disabled) = true := by decide +kernel
/-- Program P2 line 3 -/
theorem test_pauseToggle : after (exec .pauseToggle stateVol) (fun s =>
    s.trace == [.busWrite 0b100#3 0x18#6 0x10#8 .gated, .busWrite 0b010#3 0x18#6 0x00#8 .gated, .busCtl 0b110#3 0b110#3] &&
    s.paused && s.shadow == [(0x18, 0x10#8)] && s.cells.cw == 0x0036#16) = true := by decide +kernel
/-- V-E8: the stuck pass does not flip `paused` -/
theorem test_pauseToggle_stuck : after (exec .pauseToggle { stateStuck with shadow := stateVol.shadow }) (fun s =>
    s.phase == .waitCtrl && !s.paused && s.trace == [] && s.shadowAt 0x18#8 == 0x10#8) = true := by decide +kernel
/-- V-B14 -/
theorem test_hardReset : after (exec .hardReset stateOn) (fun s =>
    s.trace == [.resAssert, .resDeassert] && s.pins.res == .deasserted) = true := by decide
/-- 20_memory R89 (3): the data word of a CLEAR_BUS in flight comes before the events of the next operation -/
theorem test_hardReset_after_clearBus : after (exec .hardReset (nextOf (exec (.clearBus 0#8 0#8) stateBU))) (fun s =>
    s.trace == [.busData 0x0000#16 0x0000#16, .resAssert, .resDeassert] && s.isFinal) = true := by decide
/-- 44_lifecycle R227 with a real chip: the pulse is held -/
theorem test_hardReset_real : after
    (exec .hardReset { stateBU with conf := { stateBU.conf with chipReal := #v[false, false, false, true] } })
    (fun s => s.trace == [.resAssert, .resHold 10, .resDeassert]) = true := by decide +kernel
/-- 20_memory R89 (3) with no active chip: DISABLE waits for a timed write all the same -/
theorem test_disable_after_cycled :
    after (exec .disable (nextOf (exec (.cycledDispatch 0x04#8 0x21#8 8#16)
      { stateBU with conf := { stateBU.conf with numChips := 0 } })))
      (fun s => s.trace == [.delay 8#16, .busWrite 0b100#3 0x04#6 0x21#8 .ungated, .csRelease, .resAssert]) = true := by
  decide +kernel
/-- 44_lifecycle R228: 25 writes, the last to offset 0x18 -/
theorem test_clearRegisters : after (exec (.clearRegisters 1#8) stateVol) (fun s =>
    s.trace.length == 25 && s.cells.cw == 0x0032#16 && s.cells.dw == 0xFFFF1800#32 &&
    s.shadow == [(0x18, 0x1F#8)]) = true := by decide +kernel
/-- V-B1 -/
theorem test_initPins : after (exec .initPins stateOn) (fun s =>
    s.trace == [.pinsInit] && s.pins.cs1 && s.pins.cs2 && !s.pins.rw && s.pins.dir == 0#14 && !s.busBuilt) = true := by decide
/-- V-B3 -/
theorem test_setupBus : after (exec .setupBus stateOn) (fun s =>
    s.divBus == 125/64 && s.divClk == 125/2 && s.fullyClaimed && s.busBuilt && !s.phaseAligned &&
    s.trace == [.busBuilt (125/64) (125/2)]) = true := by decide +kernel
/-- V-B6, V-B8 -/
theorem test_setupBus_fatal : after (exec .setupBus { stateOn with env := ⟨false, 2, 0, [], []⟩ }) (fun s =>
    s.halted && s.phase == .halted && !s.busBuilt && !s.seqs.ctrl.claimed && s.trace == [.fatal .sequencer]) = true := by
  decide +kernel
/-- V-S1 -/
theorem test_rebuildBus : after (exec .rebuildBus { stateBU with conf := { stateBU.conf with clockRate := 985248 } }) (fun s =>
    s.trace == [.busTornDown, .busBuilt (1953125/985248) (1953125/30789), .phaseSync] && s.phaseAligned && s.fullyClaimed) =
    true := by decide +kernel
/-- V-S6 -/
theorem test_rebuildBus_fatal : after (exec .rebuildBus { stateBU with env := ⟨false, 3, 4, [], []⟩ }) (fun s =>
    s.trace == [.busTornDown, .fatal .sequencer] && s.halted && !s.busBuilt) = true := by decide +kernel
/-- V-K1 -/
theorem test_divider : after (exec (.computeClockDivider 985248) stateOn) (fun s =>
    s.result == .dividers (1953125/985248) (1953125/30789)) = true := by decide +kernel
/-- 45_clock R240 with a platform that rounds: the exact quotient goes through its rounding -/
theorem test_divider_rounded (n : Nat) : exec (.computeClockDivider 1)
      { stateOn with plat := { stateOn.plat with divQuant := .rounding n } } =
    .next { stateOn with
      plat := { stateOn.plat with divQuant := .rounding n }
      result := .dividers (Config.divRounding n (125000000 / (((1 : Nat) : Rat) * 32) / 2))
        (Config.divRounding n (125000000 / (((1 : Nat) : Rat) * 2))) } := by rfl
/-- V-K8 -/
theorem test_divider_zero : exec (.computeClockDivider 0) stateOn = .refused .zeroRate := by rfl
/-- V-K9 -/
theorem test_detect_internal :
    after (exec .detectExternalClock { stateOn with env := ⟨false, 4, 4, [], List.replicate 20 false⟩ })
      (fun s => s.result == .clock false && s.trace == [.clockDetect false]) = true := by decide
/-- V-K11: the last sample counts -/
theorem test_detect_external :
    after (exec .detectExternalClock { stateOn with env := ⟨false, 4, 4, [], List.replicate 19 false ++ [true]⟩ })
      (fun s => s.result == .clock true && s.clkExternal) = true := by decide
/-- V-R6 -/
theorem test_route : after (exec (.route 0x38#8) stateBU) (fun s => s.result == .routed (.entry 0x18#6 0b010#3)) = true := by
  decide
/-- V-R15 -/
theorem test_route_reserved : exec (.route 0x00#8) (stateReg0 0b011#3) = .refused .reservedPattern := by rfl
/-- V-S7 -/
theorem test_phaseSync : after (exec .phaseSync { stateBU with phaseAligned := false }) (fun s =>
    s.phaseAligned && s.trace == [.phaseSync] && s.fullyClaimed) = true := by decide +kernel
/-- 44_lifecycle R222, its example -/
theorem test_mute : after (exec .mute stateVol) (fun s =>
    s.trace == [.busWrite 0b100#3 0x18#6 0x10#8 .gated, .busWrite 0b010#3 0x18#6 0x00#8 .gated] &&
    s.cells.dw == 0xFFFF1800#32 && s.volCache == #v[0x1F#8, 0x0A#8, 0#8, 0#8]) = true := by decide +kernel
/-- 44_lifecycle R223: `VolCache[0] = 0xF0` gives 0xFE -/
theorem test_unmute : after (exec .unmute { stateBU with volCache := #v[0xF0#8, 0x0A#8, 0#8, 0#8] }) (fun s =>
    s.shadowAt 0x18#8 == 0xFE#8 && s.volCache == #v[0xFE#8, 0x0A#8, 0#8, 0#8]) = true := by decide +kernel
/-- V-D14 -/
theorem test_ignored : after (issue ⟨0x00#8, 0x21#8, 0x18#8, 0x0F#8, 0#16, 0#8, 0⟩ stateBU) (fun s =>
    s.result == .byte 0#8 && s.trace == [] && s.shadow == []) = true := by decide
/-- V-E10 -/
theorem test_unknown : issue (Request.bare 0x10#8 0x10#8) stateBU = .refused .unknownOperation := by rfl
/-- The first step after power-on with a request in place runs that request. -/
theorem test_fetch_reset : step (State.reset.withFetchWord 16 0x0700) = exec .initPins State.reset := by rfl

/-! ### Witnesses: states and operands that meet all hypotheses of a statement, named in the docstring, together -/

/-- StepRunsDecodedInstruction -/
theorem witness_step_request : ({ stateBU with inbox := [.request (Request.bare 0x04#8 0#8)] } : State).inbox =
    .request (Request.bare 0x04#8 0#8) :: [] ∧ decode (Request.bare 0x04#8 0#8) = .op .pauseToggle ∧
    decodeTableWord 16 0x0400 = some .pauseToggle := by decide
/-- TableRowsDisjoint, at the first and the last row -/
theorem witness_table_rows : opTable[0]?.map (·.selects 0x0010#16) = some true ∧
    opTable[18]?.map (·.selects 0x0F00#16) = some true := by decide
/-- MalformedCommandIsIgnored -/
theorem witness_malformed : (Request.bare 0x00#8 0x20#8).opsel = 0x00#8 ∧
    (Request.bare 0x00#8 0x20#8).command.extractLsb' 4 4 ≠ 0x1#4 ∧ stateOn.phase = .idle ∧ stateOn.halted = false := by decide
/-- ReservedCodesSelectNothing, the lowest and the highest reserved code and the lowest unknown opsel -/
theorem witness_reserved_codes : stateOn.phase = .idle ∧ stateOn.halted = false ∧
    (∀ c ∈ [0x14#8, 0x1F#8], (Request.bare 0x00#8 c).opsel = 0x00#8 ∧
      (Request.bare 0x00#8 c).command.extractLsb' 4 4 = 0x1#4 ∧
      0x4 ≤ ((Request.bare 0x00#8 c).command.extractLsb' 0 4).toNat) ∧
    0x10 ≤ (Request.bare 0x10#8 0x00#8).opsel.toNat := by decide

/-- RouteAnswers, its first clause at the top of regions 2 and 3 -/
theorem witness_route_disabled : stateBU.conf.region[((0x5F#8).extractLsb' 5 2).toNat]? = some ⟨0x1F#8, 0b110#3⟩ ∧
    stateBU.conf.region[((0x7F#8).extractLsb' 5 2).toNat]? = some ⟨0x1F#8, 0b111#3⟩ ∧ (0x7F#8).toNat < 0x80 := by decide
/-- RouteAnswers, its second clause at the top of region 0 -/
theorem witness_route_entry : stateBU.conf.region[((0x1F#8).extractLsb' 5 2).toNat]? = some ⟨0x1F#8, 0b100#3⟩ ∧
    (0x1F#8).toNat < 0x80 ∧ (0b100#3).getLsbD 0 = false ∧ (0b100#3) ≠ 0b110#3 := by decide
/-- RouteAnswers, its third clause at the bottom of region 0 -/
theorem witness_route_reserved : (stateReg0 0b101#3).conf.region[((0x00#8).extractLsb' 5 2).toNat]? =
    some ⟨0x1F#8, 0b101#3⟩ ∧ (0x00#8).toNat < 0x80 ∧ (0b101#3).getLsbD 0 = true ∧ (0b101#3) ≠ 0b111#3 := by decide
/-- RouteAnswers, its fourth clause at the first address outside the regions -/
theorem witness_route_range : stateBU.conf.region[((0x80#8).extractLsb' 5 2).toNat]? = some ⟨0x1F#8, 0b100#3⟩ ∧
    0x80 ≤ (0x80#8).toNat := by decide
/-- RoutePartitionsAddresses, the bottom of region 0 and the top of region 1 -/
theorem witness_entries : routeIn stateBU.conf.region 0x00#8 = .ok (.entry 0x00#6 0b100#3) ∧
    routeIn stateBU.conf.region 0x3F#8 = .ok (.entry 0x1F#6 0b010#3) ∧ (0x3F#8).toNat < 0x80 := ⟨rfl, rfl, by decide⟩

/-- PauseCompletes, ClearBusReturnsInFlight, HoldDrainsTheLink, PhaseSyncCompletes, AtMostOneAgentStepEnabled,
MutePassEffect, and with the edge MuteCompletes, UnmuteCompletes, EnableCompletes, DisableCompletes, PauseToggleCompletes -/
theorem witness_ready : ControllerInv stateBU ∧ stateBU.Ready ∧ stateBU.edgeAvailable = true ∧ stateBU.link.drained = true ∧
    stateBU.conf.numChips ≤ 4 ∧ NoReservedPatterns stateBU.conf := by decide +kernel
/-- The same with a timed write in flight, where the hold has work to do; InitPinsCompletes and HardResetCompletes too -/
theorem witness_ready_in_flight : ControllerInv (nextOf (exec (.cycledDispatch 0x04#8 0x21#8 9#16) stateBU)) ∧
    (nextOf (exec (.cycledDispatch 0x04#8 0x21#8 9#16) stateBU)).Ready ∧
    (nextOf (exec (.cycledDispatch 0x04#8 0x21#8 9#16) stateBU)).link.drained = false := by decide +kernel
/-- SentinelOnlyWaits, at the smallest count -/
theorem witness_sentinel : ControllerInv stateBU ∧ stateBU.Ready ∧ 1 ≤ (1#16).toNat :=
  ⟨witness_ready.1, witness_ready.2.1, by decide⟩
/-- WriteCompletes, ReadCompletes, CycledWriteCompletes, ReadBackRoundTrip, at the bottom of the enabled regions -/
theorem witness_transfer_bottom : ControllerInv stateBU ∧ stateBU.Ready ∧ stateBU.edgeAvailable = true ∧
    routeIn stateBU.conf.region 0x00#8 = .ok (.entry 0x00#6 0b100#3) :=
  ⟨witness_ready.1, witness_ready.2.1, witness_ready.2.2.1, rfl⟩
/-- The same at their top -/
theorem witness_transfer_top : ControllerInv stateBU ∧ stateBU.Ready ∧ stateBU.edgeAvailable = true ∧
    routeIn stateBU.conf.region 0x3F#8 = .ok (.entry 0x1F#6 0b010#3) :=
  ⟨witness_ready.1, witness_ready.2.1, witness_ready.2.2.1, rfl⟩
/-- ReadBackRoundTrip: after this write the environment answers the byte written -/
theorem witness_reads_back : ReadsBack (nextOf (exec (.write 0x18#8 0xA5#8) stateBU)) 0b101#3 0x18#6 ∧
    latestWrite 0b101#3 0x18#6 (nextOf (exec (.write 0x18#8 0xA5#8) stateBU)).trace = some 0xA5#8 := by decide +kernel
/-- DisabledRegionIsInert, at the bottom of region 2 with the smallest count -/
theorem witness_disabled_bottom : ControllerInv stateBU ∧ stateBU.Ready ∧
    routeIn stateBU.conf.region 0x40#8 = .ok .disabled ∧ stateBU.link.drained = true ∧
    stateBU.plat.cycShadowOnDisabled = true ∧ 1 ≤ (1#16).toNat :=
  ⟨witness_ready.1, witness_ready.2.1, rfl, witness_ready.2.2.2.1, rfl, by decide⟩
/-- DisabledRegionIsInert, at the top of region 3 with the largest count -/
theorem witness_disabled_top : ControllerInv stateBU ∧ stateBU.Ready ∧
    routeIn stateBU.conf.region 0x7F#8 = .ok .disabled ∧ 1 ≤ (65535#16).toNat :=
  ⟨witness_ready.1, witness_ready.2.1, rfl, by decide⟩
/-- `S_BU` with the switch for the shadow byte off -/
def stateNoShadow : State := { stateBU with plat := { stateBU.plat with cycShadowOnDisabled := false } }
theorem witness_no_shadow_ready : ControllerInv stateNoShadow ∧ stateNoShadow.Ready := by decide +kernel
/-- CycledDisabledWithoutShadow -/
theorem witness_no_shadow : ControllerInv stateNoShadow ∧ stateNoShadow.Ready ∧
    routeIn stateNoShadow.conf.region 0x44#8 = .ok .disabled ∧ stateNoShadow.plat.cycShadowOnDisabled = false :=
  ⟨witness_no_shadow_ready.1, witness_no_shadow_ready.2, rfl, rfl⟩

theorem witness_stuck_ready : ControllerInv stateStuck ∧ stateStuck.Ready := by decide +kernel
/-- GatedTransferSticks -/
theorem witness_stuck : ControllerInv stateStuck ∧ stateStuck.Ready ∧ stateStuck.edgeAvailable = false ∧
    stateStuck.inbox = [] ∧ routeIn stateStuck.conf.region 0x18#8 = .ok (.entry 0x18#6 0b100#3) :=
  ⟨witness_stuck_ready.1, witness_stuck_ready.2, rfl, rfl, rfl⟩
/-- A stuck WRITE (V-E4), then an environment that says `PHI` is alive again, a move of an agent and a quiet step -/
def stateStuckWrite : State :=
  { nextOf (exec (.write 0x18#8 0x0F#8) stateStuck) with inbox := [.world ⟨true, 4, 4, [], []⟩, .agent .jointWrite] }
theorem witness_stuck_inv : ControllerInv stateStuckWrite := by decide +kernel
/-- StuckIsForEver -/
theorem witness_stuck_for_ever : ControllerInv stateStuckWrite ∧ stateStuckWrite.phase.isWait = true ∧
    after (core.run 3 stateStuckWrite) (fun t => t.phase == .waitCtrl && t.link.gateData == .armed && t.trace == [] &&
      !t.env.phiAlive && t.inbox.isEmpty) = true := ⟨witness_stuck_inv, rfl, by decide⟩
/-- StuckPauseToggleDoesNotFlip -/
theorem witness_stuck_toggle : ControllerInv stateStuck ∧ stateStuck.Ready ∧ stateStuck.edgeAvailable = false ∧
    stateStuck.paused = false ∧ 1 ≤ stateStuck.conf.numChips ∧
    ∃ m p, routeIn stateStuck.conf.region 0x18#8 = .ok (.entry m p) :=
  ⟨witness_stuck_ready.1, witness_stuck_ready.2, rfl, rfl, by decide, _, _, rfl⟩

/-- BusyAndHaltedRefuse, its first clause -/
theorem witness_wait : (∀ a, Instr.mute ≠ .route a) ∧ (∀ r, Instr.mute ≠ .computeClockDivider r) ∧
    (nextOf (exec (.read 0x1B#8 0#8) stateStuck)).phase.isWait = true := ⟨nofun, nofun, rfl⟩
/-- `S_BU` after a fatal bring-up -/
def stateHalted : State := nextOf (exec .setupBus { stateOn with env := ⟨false, 4, 3, [], []⟩ })
/-- BusyAndHaltedRefuse, its second clause -/
theorem witness_halted : (∀ a, Instr.hardReset ≠ .route a) ∧ (∀ r, Instr.hardReset ≠ .computeClockDivider r) ∧
    stateHalted.phase = .halted := ⟨nofun, nofun, rfl⟩
/-- BuildStateRefuses, its first clause -/
theorem witness_unbuilt_refuses : stateOn.phase = .idle ∧ stateOn.halted = false ∧ stateOn.busBuilt = false ∧
    Instr.mute ≠ .initPins ∧ Instr.mute ≠ .hardReset ∧ Instr.mute ≠ .setupBus ∧ Instr.mute ≠ .detectExternalClock ∧
    (∀ a, Instr.mute ≠ .route a) ∧ (∀ r, Instr.mute ≠ .computeClockDivider r) :=
  ⟨rfl, rfl, rfl, nofun, nofun, nofun, nofun, nofun, nofun⟩
/-- BuildStateRefuses, its second clause -/
theorem witness_built_refuses : stateBU.phase = .idle ∧ stateBU.halted = false ∧ stateBU.busBuilt = true ∧
    (Instr.setupBus = .setupBus ∨ Instr.setupBus = .detectExternalClock) := ⟨rfl, rfl, rfl, .inl rfl⟩
/-- OperandsOutOfRangeRefused, the first address, the sentinel's address with other data, the first chip index -/
theorem witness_out_of_range : ControllerInv stateBU ∧ stateBU.Ready ∧ 0x80 ≤ (0x80#8).toNat ∧
    ¬ ((0xFF#8) = 0xFF#8 ∧ (0x00#8) = 0xFF#8 ∧ (5#16) ≠ 0#16) ∧ 4 ≤ (4#8).toNat :=
  ⟨witness_ready.1, witness_ready.2.1, by decide, by decide, by decide⟩
theorem witness_reserved_ready : ControllerInv (stateReg0 0b001#3) ∧ (stateReg0 0b001#3).Ready := by decide +kernel
/-- OperandsOutOfRangeRefused, the clause on reserved patterns -/
theorem witness_reserved_pattern : ControllerInv (stateReg0 0b001#3) ∧ (stateReg0 0b001#3).Ready ∧
    routeIn (stateReg0 0b001#3).conf.region 0x1F#8 = .error .reservedPattern :=
  ⟨witness_reserved_ready.1, witness_reserved_ready.2, rfl⟩

/-- ClearRegistersCompletes, ClearRegistersZeroesShadow, at a chip in an enabled region -/
theorem witness_clear : ControllerInv stateBU ∧ stateBU.Ready ∧ stateBU.edgeAvailable = true ∧ (1#8).toNat < 4 ∧
    NoReservedPatterns stateBU.conf ∧ stateBU.plat.regTable = defaultRegTable ∧
    stateBU.conf.region[(1#8).toNat]? = some ⟨0x1F#8, 0b010#3⟩ ∧ (0b010#3) ≠ 0b110#3 ∧ (0b010#3) ≠ 0b111#3 :=
  ⟨witness_ready.1, witness_ready.2.1, witness_ready.2.2.1, by decide, witness_ready.2.2.2.2.2, rfl, rfl, by decide, by decide⟩
/-- ClearRegistersZeroesShadow: there the operation answers a next state -/
theorem witness_clear_answers : after (exec (.clearRegisters 1#8) stateBU) (fun _ => true) = true := by decide +kernel

theorem witness_vol_ready : ControllerInv stateVol ∧ stateVol.Ready ∧ stateVol.edgeAvailable = true ∧
    stateVol.conf.numChips ≤ 4 ∧ NoReservedPatterns stateVol.conf ∧ stateVol.paused = false := by decide +kernel
theorem witness_vol_regions : ∀ i, i < stateVol.conf.numChips →
    routeIn stateVol.conf.region (volumeRegister i) ≠ .ok .disabled
  | 0, _ => nofun
  | 1, _ => nofun
/-- UnmutePassEffect, at the last entry of the cache and the last volume register -/
theorem witness_unmute_effect : ControllerInv stateVol ∧ stateVol.Ready ∧ stateVol.conf.numChips ≤ 4 ∧
    NoReservedPatterns stateVol.conf ∧ stateVol.volCache[3]? = some 0#8 ∧ (0x78#8).toNat < 0x80 ∧ (0x78#8).toNat / 32 = 3 :=
  ⟨witness_vol_ready.1, witness_vol_ready.2.1, witness_vol_ready.2.2.2.1, witness_vol_ready.2.2.2.2.1, rfl, by decide, by decide⟩
/-- PauseToggleTwiceRestores, DisableEnableRestoresVolume -/
theorem witness_restore : ControllerInv stateVol ∧ stateVol.Ready ∧ stateVol.edgeAvailable = true ∧
    stateVol.conf.numChips ≤ 4 ∧ NoReservedPatterns stateVol.conf ∧
    (∀ i, i < stateVol.conf.numChips → routeIn stateVol.conf.region (volumeRegister i) ≠ .ok .disabled) ∧
    stateVol.paused = false ∧ 1 < stateVol.conf.numChips ∧ stateVol.shadowAt (volumeRegister 1) = 0x0A#8 :=
  ⟨witness_vol_ready.1, witness_vol_ready.2.1, witness_vol_ready.2.2.1, witness_vol_ready.2.2.2.1,
    witness_vol_ready.2.2.2.2.1, witness_vol_regions, rfl, by decide, by decide⟩
/-- `S_BU` with volumes, paused -/
def statePaused : State := { stateVol with paused := true, volCache := #v[0x1F#8, 0x0A#8, 0#8, 0#8] }
/-- PauseToggleTwiceRestores, from `paused = true` -/
theorem witness_restore_paused : ControllerInv statePaused ∧ statePaused.Ready ∧ statePaused.edgeAvailable = true ∧
    statePaused.paused = true ∧ statePaused.volCache[1]? = some 0x0A#8 := by decide +kernel

/-- InitPinsCompletes, HardResetCompletes, SetupBusBuilds, DetectExternalClockAnswers, BringUpSequenceCompletes -/
theorem witness_unbuilt : ControllerInv stateOn ∧ stateOn.phase = .idle ∧ stateOn.halted = false ∧ stateOn.busBuilt = false ∧
    0 < stateOn.conf.clockRate ∧ 4 ≤ stateOn.env.freeSeq ∧ 4 ≤ stateOn.env.freeCh ∧ stateOn.link.drained = true := by
  decide +kernel
/-- Power-on with other counts of free slots and channels and another clock rate -/
def stateShort (freeSeq freeCh rate : Nat) : State :=
  { stateOn with env := ⟨false, freeSeq, freeCh, [], []⟩, conf := { stateOn.conf with clockRate := rate } }
/-- SetupBusFails, its three clauses at the boundary counts -/
theorem witness_setup_fails : (∀ n ∈ [0, 1], (stateShort 3 4 n).phase = .idle ∧ (stateShort 3 4 n).halted = false ∧
      (stateShort 3 4 n).busBuilt = false) ∧
    (stateShort 3 4 0).conf.clockRate = 0 ∧
    (0 < (stateShort 3 4 1).conf.clockRate ∧ (stateShort 3 4 1).env.freeSeq < 4) ∧
    (0 < (stateShort 4 3 1).conf.clockRate ∧ 4 ≤ (stateShort 4 3 1).env.freeSeq ∧ (stateShort 4 3 1).env.freeCh < 4) := by
  decide
/-- RebuildBusCompletes -/
theorem witness_rebuild : stateBU.Ready ∧ 0 < stateBU.conf.clockRate ∧ 4 ≤ stateBU.env.freeSeq ∧ 4 ≤ stateBU.env.freeCh := by
  decide
/-- RebuildBusFails, too few slots -/
theorem witness_rebuild_fails : ({ stateBU with env := ⟨false, 3, 4, [], []⟩ } : State).Ready ∧
    0 < ({ stateBU with env := ⟨false, 3, 4, [], []⟩ } : State).conf.clockRate ∧
    ({ stateBU with env := ⟨false, 3, 4, [], []⟩ } : State).env.freeSeq < 4 := by decide
/-- RebuildBusFails, too few channels -/
theorem witness_rebuild_fails_channels : ({ stateBU with env := ⟨false, 4, 3, [], []⟩ } : State).Ready ∧
    0 < ({ stateBU with env := ⟨false, 4, 3, [], []⟩ } : State).conf.clockRate ∧
    4 ≤ ({ stateBU with env := ⟨false, 4, 3, [], []⟩ } : State).env.freeSeq ∧
    ({ stateBU with env := ⟨false, 4, 3, [], []⟩ } : State).env.freeCh < 4 := by decide
/-- The teardown of a built bus unclaims, unloads and stops everything (46_resync R255, R259). -/
theorem test_teardown_releases : stateBU.fullyReleased = false ∧ stateBU.teardown.fullyReleased = true := by decide
theorem witness_sysClk : 0 < stateBU.plat.sysClkHz := by decide +kernel
/-- ComputeClockDividerAnswers, DividersStrictlyDecrease, from the smallest rate -/
theorem witness_rates : 0 < stateBU.plat.sysClkHz ∧ 0 < 1 ∧ 1 < 2 ∧ stateBU.plat.divQuant = .identity ∧
    ∀ x y, x ≤ y → divQuant stateBU.plat.divQuant x ≤ divQuant stateBU.plat.divQuant y :=
  ⟨witness_sysClk, by decide, by decide, rfl, fun _ _ h => h⟩

/-- BoundaryMoves, one inbox per clause; the second clause in a wait -/
theorem witness_boundary : ({ stateBU with inbox := [.configure confAtReset] } : State).inbox =
      .configure confAtReset :: [] ∧ stateBU.phase = .idle ∧
    ({ nextOf (exec (.write 0#8 0#8) stateStuck) with inbox := [.configure confAtReset] } : State).inbox =
      .configure confAtReset :: [] ∧ (nextOf (exec (.write 0#8 0#8) stateStuck)).phase ≠ .idle ∧
    ({ stateBU with inbox := [.agent .dataOnly] } : State).inbox = .agent .dataOnly :: [] ∧
    ({ stateBU with inbox := [.world ⟨true, 4, 4, [], []⟩] } : State).inbox = .world ⟨true, 4, 4, [], []⟩ :: [] ∧
    stateBU.inbox = [] := by decide
theorem witness_agent_ready : ControllerInv (nextOf (exec (.clearBus 0#8 0#8) stateBU)) := by decide +kernel
/-- BoundaryMoves, the clause with one enabled agent step -/
theorem witness_boundary_agent : ControllerInv (nextOf (exec (.clearBus 0#8 0#8) stateBU)) ∧
    (nextOf (exec (.clearBus 0#8 0#8) stateBU)).inbox = [] ∧ (nextOf (exec (.clearBus 0#8 0#8) stateBU)).phase = .idle ∧
    (nextOf (exec (.clearBus 0#8 0#8) stateBU)).enables .dataOnly = true := ⟨witness_agent_ready, rfl, rfl, rfl⟩
/-- BoundaryMoves, the clause without one -/
theorem witness_boundary_still : stateBU.inbox = [] ∧ stateBU.phase = .idle ∧ ∀ a, stateBU.enables a = false :=
  ⟨rfl, rfl, fun a => by cases a <;> rfl⟩
/-- AtMostOneAgentStepEnabled -/
theorem witness_agent_enabled : ControllerInv (nextOf (exec (.clearBus 0#8 0#8) stateBU)) ∧
    (nextOf (exec (.clearBus 0#8 0#8) stateBU)).enables .dataOnly = true := ⟨witness_agent_ready, rfl⟩
/-- ControllerInvEveryStep, NoStepFaults -/
theorem witness_invariant : ControllerInv (stateVol.withFetchWord 16 0x0400) := by decide +kernel
/-- ControllerInvEveryStep, TraceOnlyGrows: from there a step answers a next state -/
theorem witness_invariant_step : after (step (stateVol.withFetchWord 16 0x0400)) (·.paused) = true := by decide +kernel
/-- ControllerInvEveryStep, NoStepFaults in a wait: the rest of the operation is there -/
theorem witness_invariant_wait : ControllerInv (nextOf (exec .mute { stateVol with clkExternal := true })) ∧
    (nextOf (exec .mute { stateVol with clkExternal := true })).todo.length = 4 := by decide +kernel
/-- HaltedIsNeverLeft -/
theorem witness_halted_step : stateHalted.halted = true ∧ step stateHalted = .next stateHalted := ⟨rfl, rfl⟩
/-- EarlierWorkComesFirst, both clauses, with a data word in flight -/
theorem witness_earlier_work : ControllerInv (nextOf (exec (.clearBus 0#8 0#8) stateBU)) ∧
    after (exec .phaseSync (nextOf (exec (.clearBus 0#8 0#8) stateBU))) (fun t =>
      t.trace == [.busData 0x0000#16 0x0000#16, .phaseSync]) = true ∧
    after (exec .rebuildBus (nextOf (exec (.clearBus 0#8 0#8) stateBU))) (fun t => t.trace.head? == some .busTornDown) = true := by
  decide +kernel
/-- OperationsWriteOnlyTheirOwn -/
theorem witness_exec_next : exec .hardReset stateOn = .next (nextOf (exec .hardReset stateOn)) := rfl

end Sys2Proof.Tests
end

section
/-! Requests that select no operation (30_encoding R123, R125): which keys the rows of the table match when `opsel` is
0x00, and what issuing an ignored command does. -/

namespace Sys2Proof

/-- The command bytes that `dispatch` implements (30_encoding R124). -/
def dispatchCommands : List Byte := [0x10#8, 0x11#8, 0x12#8, 0x13#8]

/-- A row either compares the whole key with `opsel` 0x00 and an implemented command byte, or compares `opsel` alone with
a code other than 0x00. -/
theorem opTable_row_cases : ∀ row ∈ opTable,
    (row.mask = 0xFFFF#16 ∧ ∃ c ∈ dispatchCommands, row.value = 0x00#8 ++ c) ∨
    (row.mask = 0xFF00#16 ∧ row.value ≠ 0#16) := by decide

/-- Under `opsel` 0x00 the bits that an `opsel` row compares are all zero. -/
theorem append_and_opselMask (c : Byte) : ((0x00#8 ++ c : BitVec 16) &&& 0xFF00#16) = 0#16 := by
  rw [show (0xFF00#16) = (0xFF#8 ++ 0x00#8 : BitVec 16) from rfl, BitVec.and_append]
  simp

/-- A row selected under `opsel` 0x00 is selected by one of the implemented command bytes. -/
theorem command_mem_of_selects {r : Request} {row : OpRow} (hop : r.opsel = 0x00#8) (hrow : row ∈ opTable)
    (hsel : row.selects r.key = true) : r.command ∈ dispatchCommands := by
  have hkey : (0x00#8 ++ r.command : BitVec 16) &&& row.mask = row.value := by
    simpa [OpRow.selects, Request.key, hop] using hsel
  obtain ⟨hmask, c, hc, hvalue⟩ | ⟨hmask, hvalue⟩ := opTable_row_cases row hrow
  · have happend : (0x00#8 ++ r.command : BitVec 16) = 0x00#8 ++ c := by
      rw [← hvalue, ← hkey, hmask]
      exact BitVec.and_allOnes.symm
    rwa [(BitVec.append_right_inj 0x00#8).mp happend]
  · rw [hmask, append_and_opselMask] at hkey
    exact absurd hkey.symm hvalue

/-- Under `opsel` 0x00 a command byte that is not implemented decodes to an ignored command. -/
theorem decode_ignored {r : Request} (hop : r.opsel = 0x00#8) (hcmd : r.command ∉ dispatchCommands) :
    decode r = .ignored := by
  have hnone : opTable.find? (fun row => row.selects r.key) = none :=
    List.find?_eq_none.mpr fun _ hrow hsel => hcmd (command_mem_of_selects hop hrow hsel)
  simp [decode, hnone, hop]

/-- Every implemented command byte carries the sync nibble (30_encoding R123, R124). -/
theorem syncNibble_of_mem_dispatchCommands : ∀ c ∈ dispatchCommands, c.extractLsb' 4 4 = 0x1#4 := by decide

end Sys2Proof

namespace Sys2Proof.Machine

/-- An idle, unhalted dispatcher answers an ignored command with result 0 and changes nothing else, with or without a bus. -/
theorem issue_ignored {r : Request} {s : State} (hdec : decode r = .ignored) (hidle : s.phase = .idle)
    (hlive : s.halted = false) : issue r s = .next (s.returning (.byte 0x00#8)) := by
  simp only [issue, hdec, execIgnored, accept_either hidle hlive]

/-- Settles O7: no implemented command byte lacks the sync nibble, so the request decodes to an ignored command. -/
theorem malformedCommandIsIgnored : Obligations.MalformedCommandIsIgnored := by
  intro r s hop hsync hidle hlive
  have hcmd : r.command ∉ dispatchCommands := fun hmem => hsync (syncNibble_of_mem_dispatchCommands _ hmem)
  exact issue_ignored (decode_ignored hop hcmd) hidle hlive

end Sys2Proof.Machine
end

section
/-! The dividers of two rates (45_clock R242): the exact quotients are strictly ordered, and a rounding acts on these. -/

namespace Sys2Proof.Machine

/-- The divider before `DIV_QUANT` rounds it (45_clock R240), with `k` = 64 for the bus and `k` = 2 for the clock. -/
theorem exactDivider_strictly_decreases {sysClkHz k : Rat} {r1 r2 : Nat} (hclk : 0 < sysClkHz) (hk : 0 < k)
    (hpos : 0 < r1) (hlt : r1 < r2) : sysClkHz / (k * r2) < sysClkHz / (k * r1) := by
  have hpos' : (0 : Rat) < r1 := Nat.cast_pos.mpr hpos
  have hlt' : (r1 : Rat) < r2 := Nat.cast_lt.mpr hlt
  exact div_lt_div_of_pos_left hclk (mul_pos hk hpos') (mul_lt_mul_of_pos_left hlt' hk)

/-- A platform that does not round leaves the bus divider exact. -/
theorem busDivider_of_identity {p : Platform} (h : p.divQuant = .identity) (rate : Nat) :
    busDivider p rate = p.sysClkHz / (64 * rate) := by rw [busDivider, h, divQuant_identity]

/-- A platform that does not round leaves the clock divider exact. -/
theorem clkDivider_of_identity {p : Platform} (h : p.divQuant = .identity) (rate : Nat) :
    clkDivider p rate = p.sysClkHz / (2 * rate) := by rw [clkDivider, h, divQuant_identity]

/-- Settles O47: both exact dividers strictly decrease; without a rounding they are the answers, and a rounding that keeps
the order keeps the weak one between them. -/
theorem dividersStrictlyDecrease : Obligations.DividersStrictlyDecrease := by
  intro p r1 r2 hclk hpos hlt
  have hbus : p.sysClkHz / (64 * r2) < p.sysClkHz / (64 * r1) :=
    exactDivider_strictly_decreases hclk (by norm_num) hpos hlt
  have hclock : p.sysClkHz / (2 * r2) < p.sysClkHz / (2 * r1) :=
    exactDivider_strictly_decreases hclk (by norm_num) hpos hlt
  refine ⟨_, _, _, _, computeDividers_pos p hpos, computeDividers_pos p (hpos.trans hlt), ?exact, ?rounded⟩
  case exact =>
    intro hid
    simp only [busDivider_of_identity hid, clkDivider_of_identity hid]
    exact ⟨trivial, trivial, trivial, trivial, hbus, hclock⟩
  case rounded => exact fun hmono => ⟨hmono _ _ hbus.le, hmono _ _ hclock.le⟩

end Sys2Proof.Machine
end

section
/-! Decoding a request (30_encoding R121, R122, R141): the record and its word, the rows a key selects, and what is left
to the requests that no row matches. -/

namespace Sys2Proof

/-! ### The record and its word (log 2) -/

theorem Request.ofWord_toWord (r : Request) : Request.ofWord r.toWord = r := by
  obtain ⟨opsel, command, address, data, cycles, chip, rate⟩ := r
  simp only [Request.ofWord, Request.toWord, Request.mk.injEq]
  refine ⟨?_, ?_, ?_, ?_, ?_, ?_, by omega⟩ <;> apply BitVec.eq_of_toNat_eq <;> simp only [BitVec.toNat_ofNat] <;> omega

theorem Request.toWord_ofWord (w : Nat) : (Request.ofWord w).toWord = w := by
  simp only [Request.ofWord, Request.toWord, BitVec.toNat_ofNat]
  omega

/-- Settles O2: the fields of a record are the digits of its word in a mixed radix, and the rate is what is left. -/
theorem requestWordRoundTrip : Obligations.RequestWordRoundTrip :=
  ⟨Request.ofWord_toWord, Request.toWord_ofWord⟩

/-! ### The rows a key selects -/

/-- On the bits that two rows both compare, the values of different rows differ. -/
theorem opTable_values_differ : ∀ i j : Fin 19,
    opTable[i].value &&& opTable[j].mask = opTable[j].value &&& opTable[i].mask → i = j := by decide

/-- Settles O3: a key selected by two rows gives both the same value on the bits they both compare. -/
theorem tableRowsDisjoint : Obligations.TableRowsDisjoint := by
  intro key i j ri rj hi hj hsi hsj
  obtain ⟨_, rfl⟩ := List.getElem?_eq_some_iff.mp hi
  obtain ⟨_, rfl⟩ := List.getElem?_eq_some_iff.mp hj
  have hvi : key &&& opTable[i].mask = opTable[i].value := beq_iff_eq.mp hsi
  have hvj : key &&& opTable[j].mask = opTable[j].value := beq_iff_eq.mp hsj
  refine opTable_values_differ i j ?_
  rw [← hvi, ← hvj, BitVec.and_assoc, BitVec.and_assoc, BitVec.and_comm opTable[i].mask]

/-- A row that a request selects is the one it is decoded with, since no other row matches its key. -/
theorem decode_of_selects {r : Request} {n : Nat} (hn : n < opTable.length) (hsel : opTable[n].selects r.key = true) :
    decode r = .op (opTable[n].build r) := by
  have hsome : (opTable.find? fun row => row.selects r.key).isSome := by
    simpa using ⟨_, List.getElem_mem hn, hsel⟩
  obtain ⟨row, hrow⟩ := Option.isSome_iff_exists.mp hsome
  obtain ⟨hsel', k, hk, rfl, -⟩ := List.find?_eq_some_iff_getElem.mp hrow
  have hkn : k = n := congrArg Fin.val <| tableRowsDisjoint r.key ⟨k, hk⟩ ⟨n, hn⟩ opTable[k] opTable[n]
    (List.getElem?_eq_getElem hk) (List.getElem?_eq_getElem hn) hsel' hsel
  subst hkn
  simp only [decode, hrow]

/-- Every operation has its row (30_encoding R141). -/
theorem encodedRow (i : Instr) : Laws.EncodedRow.Statement i := by
  cases i with
  | write a d => exact Laws.EncodedRow.write a d
  | read a d => exact Laws.EncodedRow.read a d
  | pause a d => exact Laws.EncodedRow.pause a d
  | clearBus a d => exact Laws.EncodedRow.clearBus a d
  | cycledDispatch a d n => exact Laws.EncodedRow.cycledDispatch a d n
  | enable => exact Laws.EncodedRow.enable
  | disable => exact Laws.EncodedRow.disable
  | pauseToggle => exact Laws.EncodedRow.pauseToggle
  | hardReset => exact Laws.EncodedRow.hardReset
  | clearRegisters c => exact Laws.EncodedRow.clearRegisters c
  | initPins => exact Laws.EncodedRow.initPins
  | setupBus => exact Laws.EncodedRow.setupBus
  | rebuildBus => exact Laws.EncodedRow.rebuildBus
  | computeClockDivider rate => exact Laws.EncodedRow.computeClockDivider rate
  | detectExternalClock => exact Laws.EncodedRow.detectExternalClock
  | route a => exact Laws.EncodedRow.route a
  | phaseSync => exact Laws.EncodedRow.phaseSync
  | mute => exact Laws.EncodedRow.mute
  | unmute => exact Laws.EncodedRow.unmute

theorem decode_encode (i : Instr) : decode (encode i) = .op i := by
  obtain ⟨n, hn, hsel, hbuild⟩ := encodedRow i
  rw [decode_of_selects hn hsel, hbuild]

/-- Settles O1: the encoded key selects the operation's own row and no other, and the word gives the record back. -/
theorem decodeEncodeAgree : Obligations.DecodeEncodeAgree := fun i =>
  ⟨decode_encode i, by rw [encodeWord, Request.ofWord_toWord, decode_encode]⟩

/-! ### Requests that no row matches -/

/-- Every row compares the whole `opsel`, with a code below 0x10. -/
theorem opTable_opsel : ∀ row ∈ opTable,
    row.mask.extractLsb' 8 8 = 0xFF#8 ∧ (row.value.extractLsb' 8 8).toNat < 0x10 := by decide

/-- Each `opsel` code from 0x01 to 0x0F has a row that compares nothing else (30_encoding R121). -/
theorem opTable_opsel_row : ∀ o : Byte, o.toNat < 0x10 → o ≠ 0x00#8 →
    ∃ row ∈ opTable, row.mask = 0xFF00#16 ∧ row.value = o ++ 0x00#8 := by decide

/-- Each implemented command byte has a row under `opsel` 0x00 (30_encoding R124). -/
theorem opTable_command_row : ∀ c ∈ dispatchCommands, ∃ row ∈ opTable, row.selects (0x00#8 ++ c) = true := by decide

theorem mem_dispatchCommands_iff (c : Byte) : c ∈ dispatchCommands ↔ 0x10 ≤ c.toNat ∧ c.toNat ≤ 0x13 := by
  revert c; decide

/-- The upper half of a key is its `opsel` (30_encoding R141). -/
theorem Request.key_opsel (r : Request) : r.key.extractLsb' 8 8 = r.opsel := by
  rw [Request.key, BitVec.extractLsb'_append_eq_of_le (Nat.le_refl 8)]
  simp

/-- What an `opsel` row sees of a key. -/
theorem Request.key_and_opselMask (r : Request) : r.key &&& 0xFF00#16 = r.opsel ++ 0x00#8 := by
  rw [Request.key, show (0xFF00#16) = (0xFF#8 ++ 0x00#8 : BitVec 16) from rfl, BitVec.and_append]
  congr 1
  · exact BitVec.and_allOnes
  · exact BitVec.and_zero

/-- Some row matches a request exactly when its `opsel` is below 0x10 and, if that is 0x00, its command is implemented. -/
theorem exists_row_selects_iff (r : Request) : (∃ row ∈ opTable, row.selects r.key = true) ↔
    r.opsel.toNat < 0x10 ∧ (r.opsel = 0x00#8 → r.command ∈ dispatchCommands) := by
  constructor
  · rintro ⟨row, hrow, hsel⟩
    refine ⟨?_, fun hop => command_mem_of_selects hop hrow hsel⟩
    obtain ⟨hmask, hvalue⟩ := opTable_opsel row hrow
    rw [OpRow.selects, beq_iff_eq] at hsel
    have hopsel : row.value.extractLsb' 8 8 = r.opsel := by
      rw [← hsel, BitVec.extractLsb'_and, hmask, Request.key_opsel]
      exact BitVec.and_allOnes
    rwa [hopsel] at hvalue
  · rintro ⟨hlt, hcmd⟩
    by_cases hop : r.opsel = 0x00#8
    · obtain ⟨row, hrow, hsel⟩ := opTable_command_row _ (hcmd hop)
      exact ⟨row, hrow, by rwa [Request.key, hop]⟩
    · obtain ⟨row, hrow, hmask, hvalue⟩ := opTable_opsel_row _ hlt hop
      exact ⟨row, hrow, by rw [OpRow.selects, hmask, hvalue, Request.key_and_opselMask, beq_self_eq_true]⟩

/-- A request is decoded to an operation exactly when some row matches it; else its `opsel` tells ignored from unknown. -/
theorem decode_none_iff (r : Request) {x : Decoded} (hx : x = if r.opsel = 0x00#8 then .ignored else .unknown) :
    decode r = x ↔ ¬ ∃ row ∈ opTable, row.selects r.key = true := by
  subst hx
  cases h : opTable.find? (fun row => row.selects r.key) with
  | none =>
    have hnone := List.find?_eq_none.mp h
    simpa only [decode, h, true_iff, not_exists, not_and] using hnone
  | some row =>
    have hsel : row.selects r.key = true := List.find?_some (p := fun row : OpRow => row.selects r.key) h
    have hrow : ∃ row ∈ opTable, row.selects r.key = true := ⟨row, List.mem_of_find?_eq_some h, hsel⟩
    simp only [decode, h, hrow, not_true_eq_false, iff_false]
    split <;> nofun

theorem decode_eq_unknown_iff (r : Request) : decode r = .unknown ↔ 0x10 ≤ r.opsel.toNat := by
  by_cases hop : r.opsel = 0x00#8
  · have hne : decode r ≠ .unknown := by
      unfold decode
      split
      · nofun
      · rw [if_pos hop]; nofun
    simp [hne, hop]
  · rw [decode_none_iff r (by rw [if_neg hop]), exists_row_selects_iff]
    simp [hop]

theorem decode_eq_ignored_iff (r : Request) : decode r = .ignored ↔
    r.opsel = 0x00#8 ∧ (r.command.toNat < 0x10 ∨ 0x13 < r.command.toNat) := by
  by_cases hop : r.opsel = 0x00#8
  · rw [decode_none_iff r (by rw [if_pos hop]), exists_row_selects_iff, mem_dispatchCommands_iff]
    simp only [hop, BitVec.toNat_ofNat, true_and, forall_const]
    omega
  · have hne : decode r ≠ .ignored := by
      unfold decode
      split
      · nofun
      · rw [if_neg hop]; nofun
    simp [hne, hop]

/-- Settles O4. -/
theorem requestsThatSelectNothing : Obligations.RequestsThatSelectNothing := fun r =>
  ⟨decode_eq_unknown_iff r, decode_eq_ignored_iff r⟩

/-- Settles O5: each word is decoded by evaluation. -/
theorem wordsWrittenOutDecode : Obligations.WordsWrittenOutDecode := by
  unfold Obligations.WordsWrittenOutDecode
  decide

/-- The implemented command codes are 0x0 to 0x3 (30_encoding R124). -/
theorem commandCode_of_mem_dispatchCommands : ∀ c ∈ dispatchCommands, (c.extractLsb' 0 4).toNat < 0x4 := by decide

end Sys2Proof

namespace Sys2Proof.Machine

/-- An idle, unhalted dispatcher refuses a request with an unknown `opsel` (30_encoding R121). -/
theorem issue_unknown {r : Request} {s : State} (hdec : decode r = .unknown) (hidle : s.phase = .idle)
    (hlive : s.halted = false) : issue r s = .refused .unknownOperation := by
  simp only [issue, hdec, refuseUnknown, accept_either hidle hlive]

/-- Settles O8: a reserved code is no implemented command, and a large `opsel` decodes to no operation. -/
theorem reservedCodesSelectNothing : Obligations.ReservedCodesSelectNothing := by
  intro r s hidle hlive
  constructor
  · intro hop _ hcode
    have hcmd : r.command ∉ dispatchCommands := fun hmem => by
      have := commandCode_of_mem_dispatchCommands _ hmem
      omega
    exact issue_ignored (decode_ignored hop hcmd) hidle hlive
  · exact fun hop => issue_unknown ((decode_eq_unknown_iff r).mpr hop) hidle hlive

/-! ### The request port (log 2) -/

theorem step_request {s : State} {r : Request} {rest : List Stimulus} (h : s.inbox = .request r :: rest) :
    step s = issue r { s with inbox := rest } := by simp only [step, h]

theorem issue_op {r : Request} {i : Instr} (h : decode r = .op i) (s : State) : issue r s = exec i s := by
  simp only [issue, h]

theorem decodeTableWord_eq_some {nbits w : Nat} {i : Instr} (h : decodeTableWord nbits w = some i) :
    decodeBytes (bytesOfWord (nbits / 8) w) = .op i := by
  unfold decodeTableWord at h
  split at h <;> simp_all

/-- Settles O6: the step takes the request off the inbox and runs what it decodes to. -/
theorem stepRunsDecodedInstruction : Obligations.StepRunsDecodedInstruction := by
  constructor
  · intro s r rest i hin hdec
    rw [step_request hin, issue_op hdec]
  · intro s nbits w i hdec
    exact (step_request rfl).trans (issue_op (decodeTableWord_eq_some hdec) s)

end Sys2Proof.Machine
end

section
/-! The agents (20_memory R80 to R86): what each step needs, that none has a step left when they have run (R89), and that
under the invariant at most one has a step. -/

namespace Sys2Proof.Machine

/-! ### When a step is enabled, and what it does -/

theorem State.enables_jointWrite_iff {s : State} : s.enables .jointWrite = true ↔
    ∃ cw dw, s.link.pendCtrl = some cw ∧ s.link.pendData = some dw ∧ s.busSequencersRun = true ∧ cwIsRead cw = false ∧
      s.link.pendDly = none ∧ ((s.link.bothArmed = true ∧ s.edgeAvailable = true) ∨ s.link.bothOpen = true) := by
  cases hc : s.link.pendCtrl <;> cases hd : s.link.pendData <;> simp [State.enables, hc, hd, and_assoc]

theorem State.enables_jointRead_iff {s : State} : s.enables .jointRead = true ↔
    ∃ cw dw, s.link.pendCtrl = some cw ∧ s.link.pendData = some dw ∧ s.busSequencersRun = true ∧ cwIsRead cw = true ∧
      s.link.bothArmed = true ∧ s.edgeAvailable = true := by
  cases hc : s.link.pendCtrl <;> cases hd : s.link.pendData <;> simp [State.enables, hc, hd, and_assoc]

theorem State.enables_ctlOnly_iff {s : State} : s.enables .ctlOnly = true ↔
    ∃ cw, s.link.pendCtrl = some cw ∧ s.link.pendData = none ∧ s.busBuilt = true ∧ s.seqs.ctrl.running = true ∧
      s.link.gateCtrl = .opened := by
  cases hc : s.link.pendCtrl <;> cases hd : s.link.pendData <;> simp [State.enables, hc, hd, and_assoc]

theorem State.enables_dataOnly_iff {s : State} : s.enables .dataOnly = true ↔
    ∃ dw, s.link.pendCtrl = none ∧ s.link.pendData = some dw ∧ s.busBuilt = true ∧ s.seqs.data.running = true ∧
      s.link.gateData = .opened := by
  cases hc : s.link.pendCtrl <;> cases hd : s.link.pendData <;> simp [State.enables, hc, hd, and_assoc]

theorem State.enables_receive_iff {s : State} : s.enables .receive = true ↔
    s.link.rxData.busy = true ∧ ∃ v, s.link.rxSample = some v := by
  simp [State.enables, Option.isSome_iff_exists]

theorem State.enables_delay_iff {s : State} : s.enables .delay = true ↔
    s.seqs.dly.running = true ∧ ∃ n, s.link.pendDly = some n := by
  simp [State.enables, Option.isSome_iff_exists]

theorem State.perform_jointWrite {s : State} {cw : ControlWord} {dw : DataWord} (hc : s.link.pendCtrl = some cw)
    (hd : s.link.pendData = some dw) : s.perform .jointWrite = s.runJointWrite cw dw := by
  simp only [State.perform, hc, hd]

theorem State.perform_jointRead {s : State} {cw : ControlWord} {dw : DataWord} (hc : s.link.pendCtrl = some cw)
    (hd : s.link.pendData = some dw) : s.perform .jointRead = s.runJointRead cw dw := by
  simp only [State.perform, hc, hd]

theorem State.perform_ctlOnly {s : State} {cw : ControlWord} (hc : s.link.pendCtrl = some cw) :
    s.perform .ctlOnly = s.runCtlOnly cw := by
  simp only [State.perform, hc]

theorem State.perform_dataOnly {s : State} {dw : DataWord} (hd : s.link.pendData = some dw) :
    s.perform .dataOnly = s.runDataOnly dw := by
  simp only [State.perform, hd]

theorem State.perform_receive {s : State} {v : Byte} (hv : s.link.rxSample = some v) :
    s.perform .receive = s.runReceive v := by
  simp only [State.perform, hv]

theorem State.perform_delay {s : State} {n : DelayWord} (hn : s.link.pendDly = some n) :
    s.perform .delay = s.runDelay n := by
  simp only [State.perform, hn]

/-! ### What the agents can do together -/

/-- `P` holds after some of the agents' steps, each enabled when it is taken, if every enabled step keeps it. -/
def AgentsKeep (P : State → Prop) : Prop := ∀ s a, P s → s.enables a = true → P (s.perform a)

theorem AgentsKeep.tryAgent {P : State → Prop} (hP : AgentsKeep P) {s : State} (h : P s) (a : AgentStep) :
    P (s.tryAgent a) := by
  unfold State.tryAgent
  split
  · exact hP s a h (by assumption)
  · exact h

theorem AgentsKeep.tryBus {P : State → Prop} (hP : AgentsKeep P) {s : State} (h : P s) : P s.tryBus := by
  unfold State.tryBus
  split
  · exact hP s _ h (by assumption)
  · split
    · exact hP s _ h (by assumption)
    · split
      · exact hP s _ h (by assumption)
      · exact hP.tryAgent h _

theorem AgentsKeep.settle {P : State → Prop} (hP : AgentsKeep P) {s : State} (h : P s) : P s.settle :=
  hP.tryAgent (hP.tryBus (hP.tryAgent h .delay)) .receive

theorem AgentsKeep.tick {P : State → Prop} (hP : AgentsKeep P) {s : State} (h : P s) : P s.tick := by
  unfold State.tick
  split
  · exact hP s _ h (by assumption)
  · split
    · exact hP s _ h (by assumption)
    · exact hP.tryBus h

/-! ### No step is left when the agents have run (20_memory R89) -/

/-- A transaction on the bus, as opposed to a delay that ends or a sample that is received. -/
def AgentStep.onBus : AgentStep → Bool
  | .jointWrite | .jointRead | .ctlOnly | .dataOnly => true
  | .receive | .delay => false

/-- Without a word pending there is no transaction. -/
theorem State.enables_onBus_of_no_words {s : State} (hc : s.link.pendCtrl = none) (hd : s.link.pendData = none)
    {a : AgentStep} (ha : a.onBus = true) : s.enables a = false := by
  cases a <;> simp_all [State.enables, AgentStep.onBus]

/-- An enabled transaction leaves no word pending. -/
theorem State.perform_onBus_no_words {s : State} {a : AgentStep} (ha : a.onBus = true) (he : s.enables a = true) :
    (s.perform a).link.pendCtrl = none ∧ (s.perform a).link.pendData = none := by
  cases a with
  | jointWrite =>
    obtain ⟨cw, dw, hc, hd, -⟩ := State.enables_jointWrite_iff.mp he
    rw [State.perform_jointWrite hc hd]
    exact ⟨rfl, rfl⟩
  | jointRead =>
    obtain ⟨cw, dw, hc, hd, -⟩ := State.enables_jointRead_iff.mp he
    rw [State.perform_jointRead hc hd]
    exact ⟨rfl, rfl⟩
  | ctlOnly =>
    obtain ⟨cw, hc, hd, -⟩ := State.enables_ctlOnly_iff.mp he
    rw [State.perform_ctlOnly hc]
    exact ⟨rfl, hd⟩
  | dataOnly =>
    obtain ⟨dw, hc, hd, -⟩ := State.enables_dataOnly_iff.mp he
    rw [State.perform_dataOnly hd]
    exact ⟨hc, rfl⟩
  | receive => cases ha
  | delay => cases ha

/-- After one attempt at a transaction none is left: an enabled one takes the words away. -/
theorem State.tryBus_enables_onBus (s : State) {a : AgentStep} (ha : a.onBus = true) : s.tryBus.enables a = false := by
  have after : ∀ {b : AgentStep}, b.onBus = true → s.enables b = true → (s.perform b).enables a = false := fun hb he =>
    State.enables_onBus_of_no_words (State.perform_onBus_no_words hb he).1 (State.perform_onBus_no_words hb he).2 ha
  unfold State.tryBus State.tryAgent
  by_cases hw : s.enables .jointWrite = true
  · rw [if_pos hw]; exact after rfl hw
  by_cases hr : s.enables .jointRead = true
  · rw [if_neg hw, if_pos hr]; exact after rfl hr
  by_cases hc : s.enables .ctlOnly = true
  · rw [if_neg hw, if_neg hr, if_pos hc]; exact after rfl hc
  by_cases hd : s.enables .dataOnly = true
  · rw [if_neg hw, if_neg hr, if_neg hc, if_pos hd]; exact after rfl hd
  · rw [if_neg hw, if_neg hr, if_neg hc, if_neg hd]
    cases a <;> simp_all [AgentStep.onBus]

/-- Only the delay sequencer takes the delay word. -/
theorem State.perform_pendDly (s : State) {a : AgentStep} (ha : a ≠ .delay) :
    (s.perform a).link.pendDly = s.link.pendDly := by
  cases a
  case delay => exact absurd rfl ha
  all_goals simp only [State.perform]; split <;> rfl

/-- A transaction neither starts nor ends a delay. -/
theorem State.tryBus_enables_delay (s : State) : s.tryBus.enables .delay = s.enables .delay := by
  have hpend : s.tryBus.link.pendDly = s.link.pendDly := by
    simp only [State.tryBus, State.tryAgent]
    repeat' split
    all_goals first | rfl | exact State.perform_pendDly s nofun
  simp only [State.enables, hpend, State.tryBus_seqs]

/-- Taking a sample changes nothing that another agent looks at. -/
theorem State.tryAgent_receive_enables (s : State) {a : AgentStep} (ha : a ≠ .receive) :
    (s.tryAgent .receive).enables a = s.enables a := by
  unfold State.tryAgent
  split
  · next he =>
    obtain ⟨-, v, hv⟩ := State.enables_receive_iff.mp he
    rw [State.perform_receive hv]
    cases a
    case receive => exact absurd rfl ha
    all_goals rfl
  · rfl

/-- An attempt at a step leaves that step disabled: its word or sample is gone. -/
theorem State.tryAgent_enables_self (s : State) (a : AgentStep) : (s.tryAgent a).enables a = false := by
  unfold State.tryAgent
  split
  · next he =>
    cases a
    case receive =>
      obtain ⟨-, v, hv⟩ := State.enables_receive_iff.mp he
      rw [State.perform_receive hv]
      rfl
    case delay =>
      obtain ⟨-, n, hn⟩ := State.enables_delay_iff.mp he
      rw [State.perform_delay hn]
      exact Bool.and_false _
    all_goals
      exact State.enables_onBus_of_no_words (State.perform_onBus_no_words rfl he).1
        (State.perform_onBus_no_words rfl he).2 rfl
  · next he => exact Bool.eq_false_iff.mpr he

/-- When the agents have run none of them has a step. -/
theorem State.settle_enables (s : State) (a : AgentStep) : s.settle.enables a = false := by
  by_cases hr : a = .receive
  · subst hr
    exact State.tryAgent_enables_self _ _
  · rw [State.settle, State.tryAgent_receive_enables _ hr]
    cases a
    case receive => exact absurd rfl hr
    case delay => rw [State.tryBus_enables_delay, State.tryAgent_enables_self]
    all_goals exact State.tryBus_enables_onBus _ rfl

/-- Settles O51: the delay ends before the one transaction, which comes before the sample it leaves. -/
theorem settleLeavesNoAgentStep : Obligations.SettleLeavesNoAgentStep := State.settle_enables

/-- Agents without a step change nothing. -/
theorem State.settle_of_no_step {s : State} (h : ∀ a, s.enables a = false) : s.settle = s := by
  simp [State.settle, State.tryBus, State.tryAgent, h]

theorem State.tick_of_no_step {s : State} (h : ∀ a, s.enables a = false) : s.tick = s := by
  simp [State.tick, State.tryBus, State.tryAgent, h]

/-! ### Under the invariant at most one agent has a step -/

/-- The one step that consistent words and channels leave to the agents. -/
def Link.nextStep (l : Link) : AgentStep :=
  if l.rxSample.isSome then .receive
  else if l.pendDly.isSome then .delay
  else match l.pendCtrl, l.pendData with
    | some cw, some _ => if cwIsRead cw then .jointRead else .jointWrite
    | some _, none => .ctlOnly
    | none, _ => .dataOnly

/-- A waiting sample excludes words; a delay excludes single words, and a pair of words that no gate holds back. -/
theorem eq_nextStep_of_enables {s : State} (hl : s.link.Consistent) {a : AgentStep} (ha : s.enables a = true) :
    a = s.link.nextStep := by
  obtain ⟨-, hsample, hdelay, -, harmed, -, -, -⟩ := hl
  have no_sample : ∀ (h : s.link.pendCtrl.isSome = true ∨ s.link.pendData.isSome = true ∨ s.link.pendDly.isSome = true),
      s.link.rxSample.isSome = false := by
    refine fun h => Bool.eq_false_iff.mpr fun hne => ?_
    obtain ⟨-, h1, h2, h3⟩ := hsample hne
    simp [h1, h2, h3] at h
  cases a with
  | jointWrite =>
    obtain ⟨cw, dw, hc, hd, -, hw, hn, -⟩ := State.enables_jointWrite_iff.mp ha
    simp [Link.nextStep, no_sample (.inl (by simp [hc])), hn, hc, hd, hw]
  | jointRead =>
    obtain ⟨cw, dw, hc, hd, -, hr, hg, -⟩ := State.enables_jointRead_iff.mp ha
    simp only [Link.bothArmed, Bool.and_eq_true, decide_eq_true_eq] at hg
    simp [Link.nextStep, no_sample (.inl (by simp [hc])), (harmed hg.1).2.2, hc, hd, hr]
  | ctlOnly =>
    obtain ⟨cw, hc, hd, -⟩ := State.enables_ctlOnly_iff.mp ha
    have hn : s.link.pendDly.isSome = false :=
      Bool.eq_false_iff.mpr fun hne => by simpa [hc, hd] using hdelay hne
    simp [Link.nextStep, no_sample (.inl (by simp [hc])), hn, hc, hd]
  | dataOnly =>
    obtain ⟨dw, hc, hd, -⟩ := State.enables_dataOnly_iff.mp ha
    have hn : s.link.pendDly.isSome = false :=
      Bool.eq_false_iff.mpr fun hne => by simpa [hc, hd] using hdelay hne
    simp [Link.nextStep, no_sample (.inr (.inl (by simp [hd]))), hn, hc]
  | receive =>
    obtain ⟨-, v, hv⟩ := State.enables_receive_iff.mp ha
    simp [Link.nextStep, hv]
  | delay =>
    obtain ⟨-, n, hn⟩ := State.enables_delay_iff.mp ha
    simp [Link.nextStep, no_sample (.inr (.inr (by simp [hn]))), hn]

theorem ControllerInv.consistent {s : State} (hi : ControllerInv s) : s.link.Consistent := hi.2.2.2.2.2.2.1

/-- Settles O52: an enabled step is the one the words and channels leave. -/
theorem atMostOneAgentStepEnabled : Obligations.AtMostOneAgentStepEnabled := fun _ _ _ hi ha hb =>
  (eq_nextStep_of_enables hi.consistent ha).trans (eq_nextStep_of_enables hi.consistent hb).symm

/-- Under the invariant a quiet step takes the enabled agent step. -/
theorem tick_of_enables {s : State} (hi : ControllerInv s) {a : AgentStep} (ha : s.enables a = true) :
    s.tick = s.perform a := by
  have hne : ∀ b, b ≠ a → s.enables b = false := fun b hb =>
    Bool.eq_false_iff.mpr fun he => hb (atMostOneAgentStepEnabled s b a hi he ha)
  cases a <;> simp [State.tick, State.tryBus, State.tryAgent, ha, hne]

end Sys2Proof.Machine
end

section
/-! The invariant of the controller in phase IDLE (10_state R25, R34), taken apart, and that the agents keep it and end with
nothing in flight (20_memory R77). -/

namespace Sys2Proof.Machine

/-! ### The link outside a wait -/

/-- Channels, gates and words outside a wait: gates open, no read under way (20_memory R78, R81). -/
structure Link.Open (l : Link) : Prop where
  ctrl : l.txCtrl.busy = l.pendCtrl.isSome
  data : l.txData.busy = l.pendData.isSome
  delay : l.txDly.busy = l.pendDly.isSome
  receive : l.rxData.busy = false
  sample : l.rxSample = none
  gateCtrl : l.gateCtrl = .opened
  gateData : l.gateData = .opened
  pair : l.pendDly.isSome = true → l.pendCtrl.isSome = l.pendData.isSome
  write : l.pendData.isSome = true → l.readPending = false

theorem Link.open_iff {l : Link} : l.Open ↔ l.Consistent ∧ l.gateCtrl = .opened ∧ l.rxData.busy = false := by
  constructor
  · rintro ⟨hc, hd, hy, hr, hs, hgc, hgd, hp, hw⟩
    refine ⟨⟨⟨hc, hd, hy⟩, ?_, hp, ?_, ?_, ?_, ?_, fun _ => hw⟩, hgc, hr⟩ <;> simp [hs, hgc, hgd, hr]
  · rintro ⟨⟨⟨hc, hd, hy⟩, hs, hp, hg, -, -, -, hw⟩, hgc, hr⟩
    exact ⟨hc, hd, hy, hr, by simpa [hr] using hs, hgc, hg ▸ hgc, hp, hw hgc⟩

theorem Link.drained_iff {l : Link} : l.drained = true ↔
    (l.txCtrl.busy = false ∧ l.txData.busy = false ∧ l.txDly.busy = false ∧ l.rxData.busy = false) ∧
      l.pendCtrl = none ∧ l.pendData = none ∧ l.pendDly = none ∧ l.rxSample = none := by
  simp [Link.drained, Link.anyBusy, and_assoc]

/-- An open link without words has nothing in flight. -/
theorem Link.Open.drained {l : Link} (h : l.Open) (hc : l.pendCtrl = none) (hd : l.pendData = none)
    (hy : l.pendDly = none) : l.drained = true :=
  Link.drained_iff.mpr ⟨⟨by rw [h.ctrl, hc]; rfl, by rw [h.data, hd]; rfl, by rw [h.delay, hy]; rfl, h.receive⟩,
    hc, hd, hy, h.sample⟩

/-- Nothing in flight and the gates open: the link is open. -/
theorem Link.Open.of_drained {l : Link} (h : l.drained = true) (hg : l.bothOpen = true) : l.Open := by
  obtain ⟨⟨h1, h2, h3, h4⟩, h5, h6, h7, h8⟩ := Link.drained_iff.mp h
  simp only [Link.bothOpen, Bool.and_eq_true, decide_eq_true_eq] at hg
  constructor <;> simp [*]

theorem Link.Open.bothOpen {l : Link} (h : l.Open) : l.bothOpen = true := by simp [Link.bothOpen, h.gateCtrl, h.gateData]

/-- Every channel claimed, nothing in flight and the gates open: the link as bring-up leaves it. -/
theorem Link.eq_claimedIdle {l : Link} (ho : l.Open) (hd : l.drained = true) (h1 : l.txCtrl.claimed = true)
    (h2 : l.txData.claimed = true) (h3 : l.txDly.claimed = true) (h4 : l.rxData.claimed = true) :
    l = Link.claimedIdle := by
  obtain ⟨⟨c1, b1⟩, ⟨c2, b2⟩, ⟨c3, b3⟩, ⟨c4, b4⟩, g1, g2, p1, p2, p3, r⟩ := l
  obtain ⟨⟨e1, e2, e3, e4⟩, e5, e6, e7, e8⟩ := Link.drained_iff.mp hd
  have hgc := ho.gateCtrl
  have hgd := ho.gateData
  simp only at *
  subst_vars
  rfl

/-! ### The invariant in phase IDLE -/

/-- What the invariant says of an idle dispatcher. -/
structure IdleInv (s : State) : Prop where
  idle : s.phase = .idle
  live : s.halted = false
  memory : Memory.wf s.shadow
  todo : s.todo = []
  claimed : s.busBuilt = true → s.fullyClaimed = true
  unbuilt : s.busBuilt = false → s.link.drained = true ∧ s.fullyReleased = true
  link : s.link.Open

theorem idleInv_iff {s : State} : IdleInv s ↔ ControllerInv s ∧ s.phase = .idle := by
  constructor
  · intro h
    refine ⟨⟨h.memory, ?_, ?_, h.claimed, fun hb => ⟨(h.unbuilt hb).1, h.link.bothOpen⟩, ?_, (Link.open_iff.mp h.link).1,
      fun _ => (Link.open_iff.mp h.link).2, ?_, ?_, ?_, fun hb _ => (h.unbuilt hb).2⟩, h.idle⟩
    all_goals simp [h.idle, h.live, Phase.isWait, State.todoFits, h.todo]
  · rintro ⟨⟨hm, hh, -, hc, hb, -, hl, hg, -, -, ht, hr⟩, hp⟩
    have hlive : s.halted = false := Bool.eq_false_iff.mpr fun h => by simp [hp] at hh; simp [hh] at h
    exact ⟨hp, hlive, hm, by simpa [State.todoFits, hp] using ht, hc, fun hu => ⟨(hb hu).1, hr hu hlive⟩,
      Link.open_iff.mpr ⟨hl, hg hp⟩⟩

theorem ControllerInv.toIdle {s : State} (hi : ControllerInv s) (hp : s.phase = .idle) : IdleInv s := idleInv_iff.mpr ⟨hi, hp⟩

theorem IdleInv.controllerInv {s : State} (h : IdleInv s) : ControllerInv s := (idleInv_iff.mp h).1

/-- Settles O53: at power-on nothing is claimed and nothing is in flight. -/
theorem controllerInvAtReset : Obligations.ControllerInvAtReset :=
  IdleInv.controllerInv ⟨rfl, rfl, Memory.wf_nil, rfl, nofun, fun _ => ⟨rfl, rfl⟩, Link.Open.of_drained rfl rfl⟩

/-- The invariant of an idle dispatcher looks at no other field. -/
theorem IdleInv.congr {s t : State} (h : IdleInv s) (hp : t.phase = .idle) (hh : t.halted = s.halted)
    (hm : Memory.wf t.shadow) (ht : t.todo = s.todo) (hb : t.busBuilt = s.busBuilt) (hq : t.seqs = s.seqs)
    (hl : t.link = s.link) : IdleInv t := by
  have hc : t.fullyClaimed = s.fullyClaimed := by simp only [State.fullyClaimed, hq, hl]
  have hr : t.fullyReleased = s.fullyReleased := by simp only [State.fullyReleased, hq, hl]
  exact ⟨hp, hh ▸ h.live, hm, ht ▸ h.todo, by rw [hb, hc]; exact h.claimed, by rw [hb, hr, hl]; exact h.unbuilt,
    hl ▸ h.link⟩

/-- On a built bus every sequencer runs (46_resync R259). -/
theorem IdleInv.ready {s : State} (h : IdleInv s) (hb : s.busBuilt = true) : s.Ready := ⟨h.idle, h.live, hb⟩

/-! ### The agents keep it -/

@[simp] theorem State.perform_fullyClaimed (s : State) (a : AgentStep) : (s.perform a).fullyClaimed = s.fullyClaimed := by
  cases a <;> simp only [State.perform] <;> split <;> rfl

/-- No agent step is enabled without a bus, and none claims or releases a channel. -/
theorem idleInv_perform_of_open {s : State} (h : IdleInv s) {a : AgentStep} (he : s.enables a = true)
    (hl : (s.perform a).link.Open) : IdleInv (s.perform a) := by
  refine ⟨by simp [h.idle], by simp [h.live], by rw [State.perform_shadow]; exact h.memory, by simp [h.todo], ?_, ?_, hl⟩
  · simpa using h.claimed
  · intro hb
    rw [State.perform_busBuilt] at hb
    rw [State.enables_of_drained (h.unbuilt hb).1] at he
    cases he

theorem agentsKeep_idleInv : AgentsKeep IdleInv := by
  intro s a h he
  refine idleInv_perform_of_open h he ?_
  have ho := h.link
  cases a with
  | jointWrite =>
    obtain ⟨cw, dw, hc, hd, -, -, hn, -⟩ := State.enables_jointWrite_iff.mp he
    rw [State.perform_jointWrite hc hd]
    constructor <;> simp [State.runJointWrite, Link.wordsDone, ho.delay, ho.receive, ho.sample, hn]
  | jointRead =>
    obtain ⟨cw, dw, -, -, -, -, hg, -⟩ := State.enables_jointRead_iff.mp he
    simp [Link.bothArmed, ho.gateCtrl] at hg
  | ctlOnly =>
    obtain ⟨cw, hc, hd, -⟩ := State.enables_ctlOnly_iff.mp he
    rw [State.perform_ctlOnly hc]
    constructor <;> simp [State.runCtlOnly, ho.data, ho.delay, ho.receive, ho.sample, ho.gateCtrl, ho.gateData, hd]
  | dataOnly =>
    obtain ⟨dw, hc, hd, -⟩ := State.enables_dataOnly_iff.mp he
    rw [State.perform_dataOnly hd]
    constructor <;> simp [State.runDataOnly, ho.ctrl, ho.delay, ho.receive, ho.sample, ho.gateCtrl, ho.gateData, hc]
  | receive =>
    obtain ⟨hb, -⟩ := State.enables_receive_iff.mp he
    rw [ho.receive] at hb
    cases hb
  | delay =>
    obtain ⟨-, n, hn⟩ := State.enables_delay_iff.mp he
    rw [State.perform_delay hn]
    constructor <;> simp [State.runDelay, ho.ctrl, ho.data, ho.receive, ho.sample, ho.gateCtrl, ho.gateData]
    exact ho.write

theorem IdleInv.settle {s : State} (h : IdleInv s) : IdleInv s.settle := agentsKeep_idleInv.settle h

/-! ### They end with nothing in flight (20_memory R77) -/

/-- On an idle, built bus whatever is in flight has an agent with a step for it. -/
theorem IdleInv.drained_of_no_step {s : State} (h : IdleInv s) (hno : ∀ a, s.enables a = false) :
    s.link.drained = true := by
  cases hb : s.busBuilt with
  | false => exact (h.unbuilt hb).1
  | true =>
    obtain ⟨hrun, hdly⟩ := h.controllerInv.running (h.ready hb)
    have ho := h.link
    have hyd : s.link.pendDly = none := by
      by_contra hne
      obtain ⟨n, hn⟩ := Option.ne_none_iff_exists'.mp hne
      exact Bool.eq_false_iff.mp (hno .delay) (State.enables_delay_iff.mpr ⟨hdly, n, hn⟩)
    have hseq : s.seqs.ctrl.running = true ∧ s.seqs.data.running = true := by
      simpa [State.busSequencersRun, hb] using hrun
    cases hc : s.link.pendCtrl with
    | none =>
      cases hd : s.link.pendData with
      | none => exact ho.drained hc hd hyd
      | some dw =>
        exact absurd (State.enables_dataOnly_iff.mpr ⟨dw, hc, hd, hb, hseq.2, ho.gateData⟩) (Bool.eq_false_iff.mp (hno _))
    | some cw =>
      cases hd : s.link.pendData with
      | none =>
        exact absurd (State.enables_ctlOnly_iff.mpr ⟨cw, hc, hd, hb, hseq.1, ho.gateCtrl⟩) (Bool.eq_false_iff.mp (hno _))
      | some dw =>
        have hw : cwIsRead cw = false := by simpa [Link.readPending, hc] using ho.write (by rw [hd]; rfl)
        exact absurd (State.enables_jointWrite_iff.mpr ⟨cw, dw, hc, hd, hrun, hw, hyd, .inr ho.bothOpen⟩)
          (Bool.eq_false_iff.mp (hno _))

theorem IdleInv.settle_drained {s : State} (h : IdleInv s) : s.settle.link.drained = true :=
  h.settle.drained_of_no_step s.settle_enables

theorem IdleInv.settle_notBusy {s : State} (h : IdleInv s) : s.settle.link.anyBusy = false := by
  obtain ⟨⟨h1, h2, h3, h4⟩, -⟩ := Link.drained_iff.mp h.settle_drained
  simp [Link.anyBusy, h1, h2, h3, h4]

/-- The hold of an idle dispatcher always ends (20_memory R77). -/
theorem IdleInv.hold_eq {s : State} (h : IdleInv s) : hold s = some s.settle := by simp [hold, h.settle_notBusy]

theorem IdleInv.afterHold_eq {s : State} (h : IdleInv s) (body : State → Answer) : afterHold s body = body s.settle := by
  simp only [afterHold, h.hold_eq]

/-! ### A built bus at rest -/

/-- An idle dispatcher on a built bus with nothing in flight. -/
structure AtRest (s : State) : Prop where
  inv : IdleInv s
  built : s.busBuilt = true
  link : s.link = Link.claimedIdle

theorem IdleInv.atRest_of_drained {s : State} (h : IdleInv s) (hb : s.busBuilt = true) (hd : s.link.drained = true) :
    AtRest s := by
  have hc := h.claimed hb
  simp only [State.fullyClaimed, Bool.and_eq_true] at hc
  obtain ⟨⟨⟨⟨-, h1⟩, h2⟩, h3⟩, h4⟩ := hc
  exact ⟨h, hb, Link.eq_claimedIdle h.link hd h1 h2 h3 h4⟩

theorem IdleInv.settle_atRest {s : State} (h : IdleInv s) (hb : s.busBuilt = true) : AtRest s.settle :=
  h.settle.atRest_of_drained (by simpa using hb) h.settle_drained

theorem AtRest.drained {s : State} (h : AtRest s) : s.link.drained = true := by rw [h.link]; rfl

theorem AtRest.settle_eq {s : State} (h : AtRest s) : s.settle = s := State.settle_of_drained h.drained

theorem AtRest.busSequencersRun {s : State} (h : AtRest s) : s.busSequencersRun = true :=
  (h.inv.controllerInv.running (h.inv.ready h.built)).1

theorem AtRest.delayRuns {s : State} (h : AtRest s) : s.seqs.dly.running = true :=
  (h.inv.controllerInv.running (h.inv.ready h.built)).2

/-- Being at rest is kept by whatever leaves these fields alone. -/
theorem AtRest.congr {s t : State} (h : AtRest s) (hp : t.phase = .idle) (hh : t.halted = s.halted)
    (hm : Memory.wf t.shadow) (ht : t.todo = s.todo) (hb : t.busBuilt = s.busBuilt) (hq : t.seqs = s.seqs)
    (hl : t.link = s.link) : AtRest t :=
  ⟨h.inv.congr hp hh hm ht hb hq hl, hb.trans h.built, hl.trans h.link⟩

/-- What `Ready` and the invariant say together. -/
theorem ControllerInv.settle_atRest {s : State} (hi : ControllerInv s) (hr : s.Ready) : AtRest s.settle :=
  (hi.toIdle hr.1).settle_atRest hr.2.2

/-- Settles O18: an enabled agent has work left, and an idle link without work is the one bring-up left. -/
theorem holdDrainsTheLink : Obligations.HoldDrainsTheLink := fun _ hi hr =>
  ⟨(hi.toIdle hr.1).hold_eq, (hi.settle_atRest hr).link, State.settle_of_drained⟩

end Sys2Proof.Machine
end

section
/-! The transactions of the dispatcher (41_dispatcher R181 to R184, 42_cycled_dispatch), run from any idle state with the
invariant: what was in flight has run, then the transaction completes or sticks. -/

namespace Sys2Proof.Machine

/-! ### The effect of a blocking write -/

theorem blockingWrite_entry {s : State} {a : Byte} {m : BusAddr} {p : Select} (d : Byte)
    (hr : routeIn s.conf.region a = .ok (.entry m p)) : blockingWrite a d s = { s.settle with
      cells := { s.settle.cells with
        cw := 0x0030#16 ||| p.setWidth 16
        dw := 0xFFFF0000#32 ||| (m.setWidth 32 <<< 8) ||| d.setWidth 32 }
      shadow := Memory.write s.settle.shadow a.toNat d
      pins := { s.settle.pins with rw := false, cs1 := true, cs2 := true, dir := 0x3FFF#14, out := m ++ d }
      trace := s.settle.trace ++ [.busWrite p m d .gated] } := by
  simp only [blockingWrite, State.settle_conf, hr]

theorem blockingWrite_disabled {s : State} {a : Byte} (d : Byte) (hr : routeIn s.conf.region a = .ok .disabled) :
    blockingWrite a d s = s.settle := by
  simp only [blockingWrite, State.settle_conf, hr]

section
variable (a d : Byte) (s : State)

@[simp] theorem blockingWrite_volCache : (blockingWrite a d s).volCache = s.volCache := by
  unfold blockingWrite; split <;> simp
@[simp] theorem blockingWrite_phase : (blockingWrite a d s).phase = s.phase := by
  unfold blockingWrite; split <;> simp
@[simp] theorem blockingWrite_paused : (blockingWrite a d s).paused = s.paused := by
  unfold blockingWrite; split <;> simp
@[simp] theorem blockingWrite_busBuilt : (blockingWrite a d s).busBuilt = s.busBuilt := by
  unfold blockingWrite; split <;> simp
@[simp] theorem blockingWrite_halted : (blockingWrite a d s).halted = s.halted := by
  unfold blockingWrite; split <;> simp
@[simp] theorem blockingWrite_seqs : (blockingWrite a d s).seqs = s.seqs := by
  unfold blockingWrite; split <;> simp
@[simp] theorem blockingWrite_conf : (blockingWrite a d s).conf = s.conf := by
  unfold blockingWrite; split <;> simp
@[simp] theorem blockingWrite_plat : (blockingWrite a d s).plat = s.plat := by
  unfold blockingWrite; split <;> simp
@[simp] theorem blockingWrite_todo : (blockingWrite a d s).todo = s.todo := by
  unfold blockingWrite; split <;> simp
@[simp] theorem blockingWrite_link : (blockingWrite a d s).link = s.settle.link := by
  unfold blockingWrite; split <;> rfl
@[simp] theorem blockingWrite_edgeAvailable : (blockingWrite a d s).edgeAvailable = s.edgeAvailable := by
  rw [← State.settle_edgeAvailable s]
  unfold blockingWrite; split <;> rfl

end

/-- A blocking write keeps shadow memory canonical: an address that routes to an entry is inside it. -/
theorem blockingWrite_memory_wf {s : State} (a d : Byte) (hm : Memory.wf s.shadow) :
    Memory.wf (blockingWrite a d s).shadow := by
  rcases routeIn_cases s.conf.region a with ⟨-, hr⟩ | ⟨-, -, hr⟩ | ⟨-, -, hr⟩ | ⟨ha, -, -, hr⟩
  case inr.inr.inr =>
    rw [blockingWrite_entry d hr]
    exact Memory.write_wf (by rwa [State.settle_shadow]) ha
  all_goals
    simp only [blockingWrite, State.settle_conf, hr]
    rwa [State.settle_shadow]

theorem IdleInv.blockingWrite_atRest {s : State} (h : IdleInv s) (hb : s.busBuilt = true) (a d : Byte) :
    AtRest (blockingWrite a d s) :=
  (h.settle_atRest hb).congr (by simp [h.idle]) (by simp) (blockingWrite_memory_wf a d h.memory) (by simp) (by simp)
    (by simp) (by simp)

/-! ### A WRITE as two tasks -/

theorem launchWrite_entry {s : State} (h : IdleInv s) {a : Byte} (d : Byte) {m : BusAddr} {p : Select}
    (hr : routeIn s.conf.region a = .ok (.entry m p)) :
    launchWrite a d s = .done (s.settle.loadWrite m p a d) := by
  simp only [launchWrite, h.hold_eq, State.settle_conf, hr]

theorem launchWrite_disabled {s : State} (h : IdleInv s) {a : Byte} (d : Byte)
    (hr : routeIn s.conf.region a = .ok .disabled) : launchWrite a d s = .done s.settle := by
  simp only [launchWrite, h.hold_eq, State.settle_conf, hr]

theorem launchWrite_error {s : State} (h : IdleInv s) {a : Byte} (d : Byte) {r : Refusal}
    (hr : routeIn s.conf.region a = .error r) : launchWrite a d s = .refused r := by
  simp only [launchWrite, h.hold_eq, State.settle_conf, hr]

/-- With an edge to come, or in a disabled region, a launched WRITE and its wait have the effect of a blocking write. -/
theorem await_of_launchWrite {s u : State} (h : IdleInv s) (hb : s.busBuilt = true) (he : s.edgeAvailable = true)
    {a d : Byte} (hl : launchWrite a d s = .done u) : await .ctrl u = .done (blockingWrite a d s) := by
  have hrest := h.settle_atRest hb
  rcases routeIn_cases s.conf.region a with ⟨-, hr⟩ | ⟨-, -, hr⟩ | ⟨-, -, hr⟩ | ⟨-, -, hp, hr⟩
  · rw [launchWrite_error h d hr] at hl; cases hl
  · rw [launchWrite_disabled h d hr] at hl
    cases hl
    rw [blockingWrite_disabled d hr]
    exact await_of_drained .ctrl hrest.drained hrest.inv.idle
  · rw [launchWrite_error h d hr] at hl; cases hl
  · rw [launchWrite_entry h d hr] at hl
    cases hl
    rw [await_loadWrite a d hrest.link hrest.busSequencersRun (by simpa using he) hp, blockingWrite_entry d hr]
    simp only [hrest.inv.idle]
    rfl

/-- A task that launches a WRITE, and its wait, with an edge to come. -/
theorem runTasks_launch {s s₀ : State} (h : IdleInv s) (hb : s.busBuilt = true) (he : s.edgeAvailable = true) {a : Byte}
    {d : Byte} {r : Routed} (hr : routeIn s.conf.region a = .ok r) {t : Task} (ht : runTask t s₀ = launchWrite a d s)
    (ts : List Task) : runTasks (t :: .await .ctrl :: ts) s₀ = runTasks ts (blockingWrite a d s) := by
  obtain ⟨u, hu⟩ : ∃ u, launchWrite a d s = .done u := by
    cases r with
    | disabled => exact ⟨_, launchWrite_disabled h d hr⟩
    | entry m p => exact ⟨_, launchWrite_entry h d hr⟩
  rw [runTasks_done (ht.trans hu), runTasks_done (t := .await .ctrl) (await_of_launchWrite h hb he hu)]

theorem runTasks_write {s : State} (h : IdleInv s) (hb : s.busBuilt = true) (he : s.edgeAvailable = true) {a : Byte}
    (d : Byte) {r : Routed} (hr : routeIn s.conf.region a = .ok r) (ts : List Task) :
    runTasks (.launchWrite a d :: .await .ctrl :: ts) s = runTasks ts (blockingWrite a d s) :=
  runTasks_launch h hb he hr rfl ts

/-! ### The three transactions that block on a control word -/

/-- Settles O12. -/
theorem writeCompletes : Obligations.WriteCompletes := by
  intro a d s m p hi hready he hr
  refine ⟨?_, blockingWrite_entry d hr⟩
  simp only [exec, execWrite, accept_built hready, runTasks_write (hi.toIdle hready.1) hready.2.2 he d hr]
  rfl

/-- `0x0030 | pattern | CW_READ_BIT` (41_dispatcher R182). -/
theorem packControl_read (p : Select) : packControl cwBase p ||| cwReadBit = 0x0031#16 ||| p.setWidth 16 := by
  revert p; decide

/-- READ of an enabled region, up to its wait (41_dispatcher R182). -/
theorem execRead_entry {s : State} (h : IdleInv s) (hb : s.busBuilt = true) {a : Byte} (d : Byte) {m : BusAddr}
    {p : Select} (hr : routeIn s.conf.region a = .ok (.entry m p)) :
    execRead a d s = runTasks [.await .rx, .latchRead a] (s.settle.loadRead m p d) := by
  rw [← State.settle_conf s] at hr
  simp only [execRead, accept_built (h.ready hb), h.afterHold_eq, hr]

/-- Settles O13: the wait for the sample ends with the read executed, and the sample is latched. -/
theorem readCompletes : Obligations.ReadCompletes := by
  intro a d s m p hi hready he hr
  have hrest := hi.settle_atRest hready
  refine ⟨Config.rrLow s.settle.draws, ?_⟩
  rw [exec, execRead_entry (hi.toIdle hready.1) hready.2.2 d hr, runTasks_done (t := .await .rx)
    (await_loadRead m p d hrest.link hrest.busSequencersRun (by simpa using he)), ← packControl_read]
  simp only [hrest.inv.idle]
  rfl

theorem launchPause_eq {s : State} (h : IdleInv s) : launchPause s = .done s.settle.loadPause := by
  simp only [launchPause, h.hold_eq]

/-- A PAUSE and its wait always end (41_dispatcher R183). -/
theorem runTasks_pause {s : State} (h : IdleInv s) (hb : s.busBuilt = true) (ts : List Task) :
    runTasks (.launchPause :: .await .ctrl :: ts) s = runTasks ts (blockingPause s) := by
  have hrest := h.settle_atRest hb
  rw [runTasks_done (t := .launchPause) (launchPause_eq h),
    runTasks_done (t := .await .ctrl) (await_loadPause hrest.link hrest.busSequencersRun), blockingPause]
  simp only [hrest.inv.idle]
  rfl

/-- Settles O14: a control-only transaction waits for no edge. -/
theorem pauseCompletes : Obligations.PauseCompletes := by
  intro a d s hi hready
  simp only [exec, execPause, accept_built hready, runTasks_pause (hi.toIdle hready.1) hready.2.2]
  rfl

/-! ### What returns in flight -/

/-- Settles O15. -/
theorem clearBusReturnsInFlight : Obligations.ClearBusReturnsInFlight := by
  intro a d s hi hready
  have hrest := hi.settle_atRest hready
  have hload : s.settle.loadClear.returning (.byte 0x00#8) = { s.settle with
      cells := { s.settle.cells with dw := 0x00000000#32 }
      link := { Link.claimedIdle with txData := ⟨true, true⟩, pendData := some 0x00000000#32 }
      result := .byte 0x00#8 } := by
    simp only [State.loadClear, State.triggerData, State.returning, hrest.link]
    rfl
  refine ⟨s.settle.loadClear.returning (.byte 0x00#8), ?_, hload, ?_⟩
  · simp only [exec, execClearBus, accept_built hready, (hi.toIdle hready.1).afterHold_eq]
  · rw [State.returning, State.settle_with_result, settle_loadClear hrest.link hrest.busSequencersRun]
    simp only [hrest.link, State.loadClear, State.triggerData]

/-! ### The timed write -/

/-- The delay of a timed write, if there is one (42_cycled_dispatch R200). -/
def State.loadDelayIf (n : DelayWord) (s : State) : State := if 1 ≤ n.toNat then s.loadDelay n else s

@[simp] theorem State.loadDelayIf_zero (s : State) : s.loadDelayIf 0#16 = s := rfl

theorem one_le_toNat_iff (n : DelayWord) : 1 ≤ n.toNat ↔ n ≠ 0#16 := by
  rw [ne_eq, BitVec.toNat_eq, BitVec.toNat_ofNat]
  omega

theorem State.loadDelayIf_of_ne {n : DelayWord} (hn : n ≠ 0#16) (s : State) : s.loadDelayIf n = s.loadDelay n := by
  rw [State.loadDelayIf, if_pos ((one_le_toNat_iff n).mpr hn)]

@[simp] theorem State.loadDelay_conf (n : DelayWord) (s : State) : (s.loadDelay n).conf = s.conf := rfl
@[simp] theorem State.loadDelayIf_conf (n : DelayWord) (s : State) : (s.loadDelayIf n).conf = s.conf := by
  unfold State.loadDelayIf; split <;> rfl
@[simp] theorem State.loadDelayIf_plat (n : DelayWord) (s : State) : (s.loadDelayIf n).plat = s.plat := by
  unfold State.loadDelayIf; split <;> rfl
@[simp] theorem State.loadDelayIf_shadow (n : DelayWord) (s : State) : (s.loadDelayIf n).shadow = s.shadow := by
  unfold State.loadDelayIf; split <;> rfl

/-- An answer is not seen by the agents. -/
theorem State.settle_returning (s : State) (r : Result) : (s.returning r).settle = s.settle.returning r :=
  State.settle_with_result s r

/-- Nor is shadow memory. -/
theorem State.settle_setShadow (s : State) (a v : Byte) : (s.setShadow a v).settle = s.settle.setShadow a v := by
  rw [State.setShadow, State.settle_with_shadow, State.setShadow, State.settle_shadow]

theorem honouredSentinel_iff {a d : Byte} {n : DelayWord} :
    honouredSentinel a d n = true ↔ a = 0xFF#8 ∧ d = 0xFF#8 ∧ n ≠ 0#16 := by
  rw [honouredSentinel, Bool.and_eq_true, Bool.and_eq_true, beq_iff_eq, beq_iff_eq, decide_eq_true_iff, one_le_toNat_iff,
    and_assoc]

/-- A routable address is no sentinel (42_cycled_dispatch R202). -/
theorem honouredSentinel_of_lt {a : Byte} (ha : a.toNat < 128) (d : Byte) (n : DelayWord) :
    honouredSentinel a d n = false :=
  Bool.eq_false_iff.mpr fun h => by simp [(honouredSentinel_iff.mp h).1] at ha

/-- A timed write to a routable address goes on with its delay and its write part when the hold is over. -/
theorem execCycledDispatch_eq {s : State} (h : IdleInv s) (hb : s.busBuilt = true) {a : Byte} (ha : a.toNat < 128)
    (d : Byte) (n : DelayWord) : execCycledDispatch a d n s = cycledWritePart a d (s.settle.loadDelayIf n) := by
  have hr : routable a = true := by simpa [routable] using ha
  simp only [execCycledDispatch, accept_built (h.ready hb), hr, honouredSentinel_of_lt ha, h.afterHold_eq, Bool.true_or,
    ↓reduceIte, Bool.false_eq_true, State.loadDelayIf]
  split <;> rfl

/-- The words and the delay of a timed write, in flight (42_cycled_dispatch R200, R201). -/
theorem loadDelayIf_loadCycled {u : State} (hl : u.link = Link.claimedIdle) (m : BusAddr) (p : Select) (d : Byte)
    (n : DelayWord) : (u.loadDelayIf n).loadCycled m p d = { u with
      cells := { u.cells with
        cw := 0x0038#16 ||| p.setWidth 16
        dw := 0xFFFF0000#32 ||| (m.setWidth 32 <<< 8) ||| d.setWidth 32
        dlw := if n = 0#16 then u.cells.dlw else n }
      link := { Link.claimedIdle with
        txCtrl := ⟨true, true⟩, pendCtrl := some (0x0038#16 ||| p.setWidth 16)
        txData := ⟨true, true⟩, pendData := some (0xFFFF0000#32 ||| (m.setWidth 32 <<< 8) ||| d.setWidth 32)
        txDly := ⟨true, n != 0#16⟩, pendDly := if n = 0#16 then none else some n } } := by
  by_cases hn : n = 0#16
  · subst hn
    simp only [State.loadDelayIf_zero, State.loadCycled, State.triggerBoth, State.triggerData, State.triggerCtrl,
      State.setWords, hl]
    rfl
  · have hb : (n != 0#16) = true := bne_iff_ne.mpr hn
    simp only [State.loadDelayIf_of_ne hn, if_neg hn, hb, State.loadCycled, State.triggerBoth,
      State.triggerData, State.triggerCtrl, State.setWords, State.loadDelay, State.triggerDelay, hl]
    rfl

/-- The agents end the delay, when there is one, then execute the two words (20_memory R80, R86). -/
theorem settle_loadDelayIf_loadCycled {u : State} (h : AtRest u) {m : BusAddr} {p : Select} (d : Byte) (n : DelayWord)
    (hp : p.getLsbD 0 = false) : ((u.loadDelayIf n).loadCycled m p d).settle = { (u.loadDelayIf n).loadCycled m p d with
      link := Link.claimedIdle
      pins := { u.pins with rw := true, cs1 := true, cs2 := true, dir := 0x3FFF#14, out := m ++ d }
      trace := u.trace ++ (if n = 0#16 then [] else [.delay n]) ++ [.busWrite p m d .ungated] } := by
  by_cases hn : n = 0#16
  · subst hn
    rw [State.loadDelayIf_zero, settle_loadCycled d h.link h.busSequencersRun hp, if_pos rfl,
      List.append_nil, ← h.link]
    rfl
  · rw [State.loadDelayIf_of_ne hn, settle_loadDelay_loadCycled d n h.link h.busSequencersRun
      h.delayRuns hp, if_neg hn, ← h.link]
    rfl

/-- A delay alone ends as soon as the agents run. -/
theorem settle_loadDelayIf {u : State} (h : AtRest u) (n : DelayWord) : (u.loadDelayIf n).settle = { u with
      cells := { u.cells with dlw := if n = 0#16 then u.cells.dlw else n }
      trace := u.trace ++ (if n = 0#16 then [] else [.delay n]) } := by
  by_cases hn : n = 0#16
  · subst hn
    simp only [State.loadDelayIf_zero, ↓reduceIte, h.settle_eq, List.append_nil]
  · simp only [State.loadDelayIf_of_ne hn, settle_loadDelay n h.link h.delayRuns, if_neg hn]

/-- Settles O19. -/
theorem cycledWriteCompletes : Obligations.CycledWriteCompletes := by
  intro a d n s m p hi hready hr
  have hrest := hi.settle_atRest hready
  obtain ⟨ha, -, -, hp⟩ := routeIn_entry hr
  have hload := loadDelayIf_loadCycled hrest.link m p d n
  refine ⟨(((s.settle.loadDelayIf n).loadCycled m p d).setShadow a d).returning .none, ?_, ?_, ?_⟩
  · rw [← State.settle_conf s, ← State.loadDelayIf_conf n] at hr
    rw [exec, execCycledDispatch_eq (hi.toIdle hready.1) hready.2.2 ha, cycledWritePart, hr]
    rfl
  · rw [hload]
    rfl
  · rw [State.settle_returning, State.settle_setShadow, settle_loadDelayIf_loadCycled hrest d n hp, hload]
    rfl

/-- A timed write to a disabled region, with its delay. -/
theorem execCycledDispatch_disabled {s : State} (h : IdleInv s) (hb : s.busBuilt = true) {a : Byte} (d : Byte)
    (n : DelayWord) (hr : routeIn s.conf.region a = .ok .disabled) :
    execCycledDispatch a d n s = .next ((if s.plat.cycShadowOnDisabled then (s.settle.loadDelayIf n).setShadow a d
      else s.settle.loadDelayIf n).returning .none) := by
  have ha : a.toNat < 128 := by
    rcases routeIn_cases s.conf.region a with ⟨-, e⟩ | ⟨ha, -⟩ | ⟨ha, -⟩ | ⟨ha, -⟩
    · rw [hr] at e; cases e
    all_goals exact ha
  have hplat : (s.settle.loadDelayIf n).plat = s.plat := by simp
  rw [← State.settle_conf s, ← State.loadDelayIf_conf n] at hr
  rw [execCycledDispatch_eq h hb ha, cycledWritePart, hr, ← hplat]

/-- Settles O16: nothing is launched in a disabled region, and the delay of a timed write needs no region. -/
theorem disabledRegionIsInert : Obligations.DisabledRegionIsInert := by
  intro a d n s hi hready hr
  have h := hi.toIdle hready.1
  have hrest := hi.settle_atRest hready
  refine ⟨State.settle_of_drained, ?write, ?read, fun hswitch => ⟨?now, fun hn => ?later⟩⟩
  case write =>
    simp only [exec, execWrite, accept_built hready]
    rw [runTasks_done (t := .launchWrite a d) (launchWrite_disabled h d hr),
      runTasks_done (t := .await .ctrl) (await_of_drained .ctrl hrest.drained hrest.inv.idle)]
    rfl
  case read =>
    rw [← State.settle_conf s] at hr
    simp only [exec, execRead, accept_built hready, h.afterHold_eq, hr]
    rfl
  case now =>
    rw [exec, execCycledDispatch_disabled h hready.2.2 d _ hr, if_pos hswitch]
    rfl
  case later =>
    have hne : n ≠ 0#16 := (one_le_toNat_iff n).mp hn
    refine ⟨((s.settle.loadDelayIf n).setShadow a d).returning .none, ?_, ?_, ?_⟩
    · rw [exec, execCycledDispatch_disabled h hready.2.2 d _ hr, if_pos hswitch]
    · simp only [State.loadDelayIf_of_ne hne, State.loadDelay, State.triggerDelay, State.setShadow, State.returning,
        hrest.link]
      rfl
    · rw [State.settle_returning, State.settle_setShadow, settle_loadDelayIf hrest, if_neg hne, if_neg hne, ← hrest.link,
        State.loadDelayIf_of_ne hne]
      rfl

/-- Settles O17. -/
theorem cycledDisabledWithoutShadow : Obligations.CycledDisabledWithoutShadow := by
  intro a d n s hi hready hr hswitch
  refine ⟨(s.settle.loadDelayIf n).returning .none, ?_, ?_, ?_⟩
  · rw [exec, execCycledDispatch_disabled (hi.toIdle hready.1) hready.2.2 d _ hr, hswitch]
    rfl
  · rw [State.returning_shadow, State.loadDelayIf_shadow, State.settle_shadow]
  · rw [State.settle_returning, settle_loadDelayIf (hi.settle_atRest hready)]
    rfl

/-- The wait for a delay always ends, with the delay over (42_cycled_dispatch R202). -/
theorem await_loadDelay {u : State} (h : AtRest u) (n : DelayWord) : await .dly (u.loadDelay n) = .done { u with
    cells := { u.cells with dlw := n }, trace := u.trace ++ [.delay n] } := by
  simp only [await, State.settle_with_phase, settle_loadDelay n h.link h.delayRuns, WaitPoint.busy, h.link,
    Link.claimedIdle, Bool.false_eq_true, ↓reduceIte, h.inv.idle]

/-- Settles O20. -/
theorem sentinelOnlyWaits : Obligations.SentinelOnlyWaits := by
  intro n s hi hready
  have h := hi.toIdle hready.1
  constructor
  · intro hn
    have hs : honouredSentinel 0xFF#8 0xFF#8 n = true := honouredSentinel_iff.mpr ⟨rfl, rfl, (one_le_toNat_iff n).mp hn⟩
    simp only [exec, execCycledDispatch, accept_built hready, hs, Bool.or_true, ↓reduceIte, h.afterHold_eq]
    rw [runTasks_done (t := .await .dly) (await_loadDelay (hi.settle_atRest hready) n)]
    rfl
  · rw [exec, execCycledDispatch, accept_built hready]
    rfl

/-! ### Operands outside their range -/

theorem runTasks_refused {t : Task} {ts : List Task} {s : State} {r : Refusal} (h : runTask t s = .refused r) :
    runTasks (t :: ts) s = .refused r := by simp only [runTasks, h]

/-- Where routing refuses, so does WRITE (43_router R212, R216). -/
theorem execWrite_error {s : State} (h : IdleInv s) (hb : s.busBuilt = true) {a : Byte} (d : Byte) {r : Refusal}
    (hr : routeIn s.conf.region a = .error r) : execWrite a d s = .refused r := by
  rw [execWrite, accept_built (h.ready hb), runTasks_refused (t := .launchWrite a d) (launchWrite_error h d hr)]

/-- Where routing refuses, so does READ. -/
theorem execRead_error {s : State} (h : IdleInv s) (hb : s.busBuilt = true) {a : Byte} (d : Byte) {r : Refusal}
    (hr : routeIn s.conf.region a = .error r) : execRead a d s = .refused r := by
  rw [← State.settle_conf s] at hr
  simp only [execRead, accept_built (h.ready hb), h.afterHold_eq, hr]

theorem routeIn_of_le {table : Vector Region 4} {a : Byte} (ha : 0x80 ≤ a.toNat) :
    routeIn table a = .error .addressOutOfRange := by
  have hr : routable a = false := by simpa [routable] using ha
  simp only [routeIn, hr, Bool.false_eq_true, ↓reduceIte]

/-- Settles O26. -/
theorem operandsOutOfRangeRefused : Obligations.OperandsOutOfRangeRefused := by
  intro a d n s hi hready
  have h := hi.toIdle hready.1
  refine ⟨fun ha => ?range, fun hr => ?reserved, fun hd => ?chip, ?rate⟩
  case range =>
    refine ⟨execWrite_error h hready.2.2 d (routeIn_of_le ha), execRead_error h hready.2.2 d (routeIn_of_le ha),
      fun hns => ?_⟩
    have hno : (routable a || honouredSentinel a d n) = false :=
      Bool.or_eq_false_iff.mpr ⟨by simpa [routable] using ha, Bool.eq_false_iff.mpr fun h => hns (honouredSentinel_iff.mp h)⟩
    simp only [exec, execCycledDispatch, accept_built hready, hno, Bool.false_eq_true, ↓reduceIte]
  case reserved =>
    refine ⟨execWrite_error h hready.2.2 d hr, execRead_error h hready.2.2 d hr, ?_⟩
    have ha : a.toNat < 128 := by
      by_contra hge
      rw [routeIn_of_le (by omega)] at hr
      cases hr
    rw [← State.settle_conf s, ← State.loadDelayIf_conf n] at hr
    rw [exec, execCycledDispatch_eq h hready.2.2 ha, cycledWritePart, hr]
  case chip =>
    simp only [exec, execClearRegisters, accept_built hready, if_neg (Nat.not_lt.mpr hd)]
  case rate => simp only [exec, execComputeClockDivider, computeDividers, ↓reduceIte]

end Sys2Proof.Machine
end

section
/-! Waits between steps: only a stuck transaction waits (60_exceptions R274; log 7), and it waits for ever. -/

namespace Sys2Proof.Machine

/-! ### A stuck transaction -/

/-- WRITE without an edge to come, in its wait (60_exceptions R274). -/
theorem controllerInv_stuckWrite {u : State} (h : AtRest u) (he : u.edgeAvailable = false) (m : BusAddr) {p : Select}
    (hp : p.getLsbD 0 = false) {a : Byte} (ha : a.toNat < 128) (d : Byte) {ts : List Task}
    (hts : tasksPaired ts false = true) :
    ControllerInv { u.loadWrite m p a d with phase := .waitCtrl, todo := .await .ctrl :: ts } := by
  have hl : (u.loadWrite m p a d).link = { Link.claimedIdle with
      txCtrl := ⟨true, true⟩, pendCtrl := some (packControl cwBase p)
      txData := ⟨true, true⟩, pendData := some (packData dirWrite m d)
      gateCtrl := .armed, gateData := .armed } := by
    simp [State.loadWrite, State.triggerBoth, h.link, Link.claimedIdle]
  refine ⟨Memory.write_wf h.inv.memory ha, ?_, fun hh => ?_, fun _ => h.inv.claimed h.built, fun hb => ?_,
    fun _ => ⟨h.built, by rw [hl], he⟩, ?_, nofun, nofun, ?_, ?_, fun hb => ?_⟩
  · simp [State.loadWrite, State.triggerBoth, h.inv.live]
  · exact absurd (h.inv.live.symm.trans hh) nofun
  · exact absurd (h.built.symm.trans hb) nofun
  · rw [hl]
    simpa [Link.Consistent, Link.claimedIdle, Link.readPending] using hp
  · rw [hl]
    simpa [Link.readPending] using fun _ => hp
  · simp [State.todoFits, tasksAwait, Task.awaits, hts]
  · exact absurd (h.built.symm.trans hb) nofun

/-- READ without an edge to come, in its wait. -/
theorem controllerInv_stuckRead {u : State} (h : AtRest u) (he : u.edgeAvailable = false) (m : BusAddr) (p : Select)
    (d : Byte) {ts : List Task} (hts : tasksPaired ts false = true) :
    ControllerInv { u.loadRead m p d with phase := .waitRx, todo := .await .rx :: ts } := by
  have hl : (u.loadRead m p d).link = { Link.claimedIdle with
      txCtrl := ⟨true, true⟩, pendCtrl := some (packControl cwBase p ||| cwReadBit)
      txData := ⟨true, true⟩, pendData := some (packData dirRead m d)
      rxData := ⟨true, true⟩, gateCtrl := .armed, gateData := .armed } := by
    simp [State.loadRead, State.triggerBoth, h.link, Link.claimedIdle]
  refine ⟨h.inv.memory, ?_, fun hh => ?_, fun _ => h.inv.claimed h.built, fun hb => ?_,
    fun _ => ⟨h.built, by rw [hl], he⟩, ?_, nofun, nofun, ?_, ?_, fun hb => ?_⟩
  · simp [State.loadRead, State.triggerBoth, h.inv.live]
  · exact absurd (h.inv.live.symm.trans hh) nofun
  · exact absurd (h.built.symm.trans hb) nofun
  · rw [hl]
    simp [Link.Consistent, Link.claimedIdle, Link.readPending]
  · rw [hl]
    simp [Link.readPending]
  · simp [State.todoFits, tasksAwait, Task.awaits, hts]
  · exact absurd (h.built.symm.trans hb) nofun

/-! ### Nothing moves in a wait -/

/-- Armed gates without an edge hold back every agent (20_memory R80, R81). -/
theorem ControllerInv.enables_of_wait {s : State} (hi : ControllerInv s) (hw : s.phase.isWait = true) (a : AgentStep) :
    s.enables a = false := by
  obtain ⟨-, -, -, -, -, hwait, ⟨-, hsample, -, hgates, harmed, -⟩, -⟩ := hi
  obtain ⟨-, hg, hedge⟩ := hwait hw
  obtain ⟨hc, hd, hn⟩ := harmed hg
  refine Bool.eq_false_iff.mpr fun he => ?_
  cases a with
  | jointWrite =>
    obtain ⟨-, -, -, -, -, -, -, ⟨-, h⟩ | h⟩ := State.enables_jointWrite_iff.mp he
    · exact absurd (hedge.symm.trans h) nofun
    · simp [Link.bothOpen, hg] at h
  | jointRead =>
    obtain ⟨-, -, -, -, -, -, -, h⟩ := State.enables_jointRead_iff.mp he
    exact absurd (hedge.symm.trans h) nofun
  | ctlOnly =>
    obtain ⟨-, -, -, -, -, h⟩ := State.enables_ctlOnly_iff.mp he
    exact absurd (hg.symm.trans h) nofun
  | dataOnly =>
    obtain ⟨-, -, -, -, -, h⟩ := State.enables_dataOnly_iff.mp he
    exact absurd ((hg.symm.trans hgates).trans h) nofun
  | receive =>
    obtain ⟨-, v, hv⟩ := State.enables_receive_iff.mp he
    exact absurd (hc.symm.trans (hsample (by rw [hv]; rfl)).2.1) nofun
  | delay =>
    obtain ⟨-, n, hn'⟩ := State.enables_delay_iff.mp he
    simp [hn'] at hn

/-- A wait that is looked at again with no agent step and its channel busy stays as it is. -/
theorem resume_of_busy {s : State} {w : WaitPoint} {ts : List Task} (hph : s.phase = w.phase)
    (htodo : s.todo = .await w :: ts) (hbusy : w.busy s.link = true) (hno : ∀ a, s.enables a = false) :
    resume s = .next s := by
  have hawait : await w { s with todo := [] } = .blocked { s with todo := [] } := by
    simp only [await, State.settle_with_todo, State.settle_of_no_step hno, hbusy, ↓reduceIte, ← hph]
  rw [resume, htodo, runTasks_blocked (t := .await w) hawait, ← htodo]

theorem tasksAwait_eq_cons {w : WaitPoint} {ts : List Task} (h : tasksAwait w ts = true) :
    ∃ rest, ts = .await w :: rest := by
  cases ts with
  | nil => cases h
  | cons t rest =>
    simp only [tasksAwait, Bool.and_eq_true] at h
    cases t with
    | await w' => exact ⟨rest, by simpa [Task.awaits] using h.1⟩
    | _ => cases h.1

/-- The wait of a stuck transaction, looked at again, stays as it is (60_exceptions R274). -/
theorem ControllerInv.resume_of_wait {s : State} (hi : ControllerInv s) (hw : s.phase.isWait = true) :
    resume s = .next s := by
  have hno := hi.enables_of_wait hw
  obtain ⟨-, -, -, -, -, hwait, ⟨⟨hbusy, -, -⟩, -, -, -, harmed, hread, -⟩, -, hdly, hrx, hfits, -⟩ := hi
  obtain ⟨-, hg, -⟩ := hwait hw
  cases hp : s.phase with
  | idle => simp [hp, Phase.isWait] at hw
  | halted => simp [hp, Phase.isWait] at hw
  | waitDly => exact absurd hp hdly
  | waitCtrl =>
    obtain ⟨ts, htodo⟩ := tasksAwait_eq_cons (w := .ctrl) (by simpa only [State.todoFits, hp] using hfits)
    exact resume_of_busy (w := .ctrl) hp htodo (hbusy.trans (harmed hg).1) hno
  | waitRx =>
    obtain ⟨ts, htodo⟩ := tasksAwait_eq_cons (w := .rx) (by simpa only [State.todoFits, hp] using hfits)
    exact resume_of_busy (w := .rx) hp htodo (hread hg ((hrx hw).mpr hp)) hno

/-- With nothing arriving a stuck transaction stays as it is. -/
theorem ControllerInv.quietMove_of_wait {s : State} (hi : ControllerInv s) (hw : s.phase.isWait = true) :
    quietMove s = .next s := by
  rw [quietMove, State.tick_of_no_step (hi.enables_of_wait hw), continueBlocked, if_pos hw, hi.resume_of_wait hw]

/-- Calling for an agent step changes nothing in a stuck transaction. -/
theorem ControllerInv.agentMove_of_wait {s : State} (hi : ControllerInv s) (hw : s.phase.isWait = true) (a : AgentStep) :
    agentMove a s = .next s := by
  rw [agentMove, State.tryAgent, hi.enables_of_wait hw, if_neg nofun, continueBlocked, if_pos hw, hi.resume_of_wait hw]

/-! ### WRITE and READ without an edge to come -/

/-- A launched WRITE whose edge never comes ends the step in its wait (60_exceptions R274). -/
theorem runTasks_launch_stuck {s s₀ : State} (h : IdleInv s) (hb : s.busBuilt = true) (he : s.edgeAvailable = false)
    {a d : Byte} {m : BusAddr} {p : Select} (hr : routeIn s.conf.region a = .ok (.entry m p)) {t : Task}
    (ht : runTask t s₀ = launchWrite a d s) (ts : List Task) : runTasks (t :: .await .ctrl :: ts) s₀ =
      .next { s.settle.loadWrite m p a d with phase := .waitCtrl, todo := .await .ctrl :: ts } := by
  rw [runTasks_done (ht.trans (launchWrite_entry h d hr)), runTasks_blocked (t := .await .ctrl)
    (await_loadWrite_stuck a d (h.settle_atRest hb).link (by simpa using he) (routeIn_entry hr).2.2.2)]

/-- A stuck state with an empty inbox is a fixed point of `step`. -/
theorem step_of_stuck {t : State} (hi : ControllerInv t) (hw : t.phase.isWait = true) (hin : t.inbox = []) :
    step t = .next t := by
  simp only [step, hin]
  exact hi.quietMove_of_wait hw

/-- Settles O21. -/
theorem gatedTransferSticks : Obligations.GatedTransferSticks := by
  intro a d s m p hi hready he hin hr
  have h := hi.toIdle hready.1
  have hrest := hi.settle_atRest hready
  have he' : s.settle.edgeAvailable = false := by rwa [State.settle_edgeAvailable]
  obtain ⟨ha, -, -, hp⟩ := routeIn_entry hr
  constructor
  · refine ⟨_, ?_, step_of_stuck (controllerInv_stuckWrite hrest he' m hp ha d (ts := [.answer (.byte 0x00#8)]) rfl) rfl ?_,
      ?_⟩
    · simp only [exec, execWrite, accept_built hready, runTasks_launch_stuck h hready.2.2 he hr (t := .launchWrite a d) rfl]
    · exact (State.settle_inbox s).trans hin
    · simp only [State.loadWrite, State.triggerBoth, State.triggerData, State.triggerCtrl, State.armGates, State.setShadow,
        State.setWords, hrest.link]
      rfl
  · refine ⟨_, ?_, step_of_stuck (controllerInv_stuckRead hrest he' m p d (ts := [.latchRead a]) ?_) rfl ?_, ?_⟩
    · rw [exec, execRead_entry h hready.2.2 d hr,
        runTasks_blocked (t := .await .rx) (await_loadRead_stuck m p d hrest.link he')]
    · simp [tasksPaired, Task.launches, Task.plain, routable, ha]
    · exact (State.settle_inbox s).trans hin
    · simp only [State.loadRead, State.triggerBoth, State.triggerData, State.triggerCtrl, State.triggerReceive,
        State.armGates, State.setWords, hrest.link, packControl_read]
      rfl

end Sys2Proof.Machine
end

section
/-! Every step keeps the invariant of the controller and none faults (20_memory R77, 46_resync R259, 60_exceptions R273). -/

namespace Sys2Proof.Machine

/-- An answer the invariant allows: a next state with the invariant, or a refusal; never a fault. -/
def Answer.Sound : Answer → Prop
  | .next t => ControllerInv t
  | .fault _ => False
  | .refused _ => True

/-! ### The tests an operation makes first -/

/-- The state passes the tests of an operation with this need of the bus (60_exceptions R275). -/
def BusNeed.metBy : BusNeed → State → Prop
  | .built, s => s.Ready
  | .unbuilt, s => s.phase = .idle ∧ s.halted = false ∧ s.busBuilt = false
  | .either, s => s.phase = .idle ∧ s.halted = false

/-- An operation is refused, or the state passes its tests and its body runs. -/
theorem accept_cases (need : BusNeed) (s : State) (body : State → Answer) :
    (∃ r, accept need s body = .refused r) ∨ (need.metBy s ∧ accept need s body = body s) := by
  unfold accept
  cases hr : callRefusal need s with
  | some r => exact .inl ⟨r, rfl⟩
  | none =>
    refine .inr ⟨?_, rfl⟩
    unfold callRefusal at hr
    cases hp : s.phase <;> simp only [hp, reduceCtorEq] at hr
    cases hh : s.halted <;> simp only [hh, ↓reduceIte, Bool.false_eq_true, reduceCtorEq] at hr
    cases need <;> simp_all [BusNeed.metBy, State.Ready]

theorem accept_sound {need : BusNeed} {s : State} {body : State → Answer} (h : need.metBy s → (body s).Sound) :
    (accept need s body).Sound := by
  obtain ⟨r, e⟩ | ⟨hmet, e⟩ := accept_cases need s body
  · rw [e]; trivial
  · rw [e]; exact h hmet

theorem ControllerInv.idle_of_met {s : State} (hi : ControllerInv s) {need : BusNeed} (h : need.metBy s) : IdleInv s :=
  hi.toIdle <| by cases need <;> exact h.1

/-! ### Tasks -/

/-- A state that a launch leaves: nothing launched into a disabled region, a WRITE, or a PAUSE. -/
inductive Launched : State → Prop
  | nothing {u : State} (h : AtRest u) : Launched u
  | write {u : State} (h : AtRest u) (m : BusAddr) {p : Select} (hp : p.getLsbD 0 = false) {a : Byte}
      (ha : a.toNat < 128) (d : Byte) : Launched (u.loadWrite m p a d)
  | pause {u : State} (h : AtRest u) : Launched u.loadPause

theorem launchWrite_launched {s : State} (h : IdleInv s) (hb : s.busBuilt = true) (a d : Byte) :
    (∃ u, launchWrite a d s = .done u ∧ Launched u) ∨ ∃ r, launchWrite a d s = .refused r := by
  rcases routeIn_cases s.conf.region a with ⟨-, hr⟩ | ⟨-, -, hr⟩ | ⟨-, -, hr⟩ | ⟨ha, -, hp, hr⟩
  · exact .inr ⟨_, launchWrite_error h d hr⟩
  · exact .inl ⟨_, launchWrite_disabled h d hr, .nothing (h.settle_atRest hb)⟩
  · exact .inr ⟨_, launchWrite_error h d hr⟩
  · exact .inl ⟨_, launchWrite_entry h d hr, .write (h.settle_atRest hb) _ hp ha d⟩

theorem IdleInv.with_volCache {s : State} (h : IdleInv s) (v : Vector Byte 4) : IdleInv { s with volCache := v } :=
  h.congr h.idle rfl h.memory rfl rfl rfl rfl

/-- A launch from an idle, built bus is refused or leaves a launched state. -/
theorem runTask_launches {t : Task} (ht : t.launches = true) {s : State} (h : IdleInv s) (hb : s.busBuilt = true) :
    (∃ u, runTask t s = .done u ∧ Launched u) ∨ ∃ r, runTask t s = .refused r := by
  cases t with
  | launchWrite a d => exact launchWrite_launched h hb a d
  | launchPause => exact .inl ⟨_, launchPause_eq h, .pause (h.settle_atRest hb)⟩
  | launchMute chip =>
    by_cases hc : chip < 4
    · rw [runTask, launchMute_eq hc]
      exact launchWrite_launched (h.with_volCache _) (by exact hb) _ _
    · exact .inr ⟨.addressOutOfRange, by simp only [runTask, launchMute, hc, ↓reduceDIte]⟩
  | launchUnmute chip =>
    by_cases hc : chip < 4
    · rw [runTask, launchUnmute_eq hc]
      exact launchWrite_launched (h.with_volCache _) (by exact hb) _ _
    · exact .inr ⟨.addressOutOfRange, by simp only [runTask, launchUnmute, hc, ↓reduceDIte]⟩
  | _ => cases ht

/-- A plain task ends in an idle state with the invariant. -/
theorem runTask_plain {t : Task} (ht : t.plain = true) {s : State} (h : IdleInv s) :
    ∃ u, runTask t s = .done u ∧ IdleInv u ∧ u.busBuilt = s.busBuilt := by
  cases t with
  | latchRead a =>
    have ha : a.toNat < 128 := by simpa [Task.plain, routable] using ht
    exact ⟨_, rfl, h.congr h.idle rfl (Memory.write_wf h.memory ha) rfl rfl rfl rfl, rfl⟩
  | releaseSelects => exact ⟨_, rfl, h.congr h.idle rfl h.memory rfl rfl rfl rfl, rfl⟩
  | assertRes => exact ⟨_, rfl, h.congr h.idle rfl h.memory rfl rfl rfl rfl, rfl⟩
  | clearPaused => exact ⟨_, rfl, h.congr h.idle rfl h.memory rfl rfl rfl rfl, rfl⟩
  | flipPaused => exact ⟨_, rfl, h.congr h.idle rfl h.memory rfl rfl rfl rfl, rfl⟩
  | answer r => exact ⟨_, rfl, h.congr h.idle rfl h.memory rfl rfl rfl rfl, rfl⟩
  | _ => cases ht

/-- The wait after a launch ends at rest, or blocks in a stuck state whatever paired tasks are left. -/
theorem await_launched {s : State} (h : Launched s) : (∃ u, await .ctrl s = .done u ∧ AtRest u) ∨
    ∃ u, await .ctrl s = .blocked u ∧
      ∀ ts, tasksPaired ts false = true → ControllerInv { u with todo := .await .ctrl :: ts } := by
  cases h with
  | nothing h => exact .inl ⟨_, await_of_drained .ctrl h.drained h.inv.idle, h⟩
  | pause h => exact .inl ⟨_, await_loadPause h.link h.busSequencersRun, h.congr rfl rfl h.inv.memory rfl rfl rfl rfl⟩
  | @write u h m p hp a ha d =>
    cases he : u.edgeAvailable with
    | true => exact .inl ⟨_, await_loadWrite a d h.link h.busSequencersRun he hp,
        h.congr rfl rfl (Memory.write_wf h.inv.memory ha) rfl rfl rfl rfl⟩
    | false => exact .inr ⟨_, await_loadWrite_stuck a d h.link he hp,
        fun ts hts => controllerInv_stuckWrite h he m hp ha d hts⟩

/-- Paired tasks keep the invariant, from an idle, built bus and from a launched state before its wait. -/
theorem runTasks_sound (ts : List Task) :
    (tasksPaired ts false = true → ∀ s, IdleInv s → s.busBuilt = true → (runTasks ts s).Sound) ∧
    (tasksPaired ts true = true → ∀ s, Launched s → (runTasks ts s).Sound) := by
  induction ts with
  | nil => exact ⟨fun _ s h _ => h.controllerInv, nofun⟩
  | cons t ts ih =>
    obtain ⟨ihIdle, ihLaunched⟩ := ih
    constructor
    · intro hts s h hb
      cases hl : t.launches with
      | true =>
        obtain ⟨u, hu, hlu⟩ | ⟨r, hr⟩ := runTask_launches hl h hb
        · rw [runTasks_done hu]
          exact ihLaunched (by simpa [tasksPaired, hl] using hts) u hlu
        · rw [runTasks_refused hr]
          trivial
      | false =>
        obtain ⟨hplain, hrest⟩ : t.plain = true ∧ tasksPaired ts false = true := by simpa [tasksPaired, hl] using hts
        obtain ⟨u, hu, hiu, hbu⟩ := runTask_plain hplain h
        rw [runTasks_done hu]
        exact ihIdle hrest u hiu (hbu.trans hb)
    · intro hts s h
      obtain ⟨hw, hrest⟩ : t.awaits .ctrl = true ∧ tasksPaired ts false = true := by simpa [tasksPaired] using hts
      obtain rfl : t = .await .ctrl := by
        cases t with
        | await w => simpa [Task.awaits] using hw
        | _ => cases hw
      obtain ⟨u, hu, hrestu⟩ | ⟨u, hu, hstuck⟩ := await_launched h
      · rw [runTasks_done (t := .await .ctrl) hu]
        exact ihIdle hrest u hrestu.inv hrestu.built
      · rw [runTasks_blocked (t := .await .ctrl) hu]
        exact hstuck ts hrest

theorem runTasks_idle_sound {ts : List Task} {s : State} (hts : tasksPaired ts false = true) (h : IdleInv s)
    (hb : s.busBuilt = true) : (runTasks ts s).Sound := (runTasks_sound ts).1 hts s h hb

/-- A list of launches, each with its wait, is paired. -/
theorem tasksPaired_flatMap {α : Type} {f : α → Task} (hf : ∀ x, (f x).launches = true) (l : List α) (ts : List Task) :
    tasksPaired ((l.flatMap fun x => [f x, .await .ctrl]) ++ ts) false = tasksPaired ts false := by
  induction l with
  | nil => rfl
  | cons x l ih => simpa [tasksPaired, hf, Task.awaits] using ih

theorem tasksPaired_mute (n : Nat) (ts : List Task) :
    tasksPaired (muteTasks n ++ ts) false = tasksPaired ts false := tasksPaired_flatMap (fun _ => rfl) _ ts

theorem tasksPaired_unmute (n : Nat) (ts : List Task) :
    tasksPaired (unmuteTasks n ++ ts) false = tasksPaired ts false := tasksPaired_flatMap (fun _ => rfl) _ ts

theorem tasksPaired_clear (chip : Nat) (offsets : List (BitVec 5)) (ts : List Task) :
    tasksPaired (clearTasks chip offsets ++ ts) false = tasksPaired ts false := tasksPaired_flatMap (fun _ => rfl) _ ts

/-! ### Words and delays left in flight -/

/-- A state at rest whose link alone has changed, to an open one, is idle with the invariant. -/
theorem AtRest.idleInv_of_link {s t : State} (h : AtRest s) (hp : t.phase = s.phase) (hh : t.halted = s.halted)
    (hm : Memory.wf t.shadow) (ht : t.todo = s.todo) (hb : t.busBuilt = s.busBuilt)
    (hc : t.fullyClaimed = s.fullyClaimed) (hl : t.link.Open) : IdleInv t :=
  ⟨hp.trans h.inv.idle, hh.trans h.inv.live, hm, ht.trans h.inv.todo, fun _ => hc.trans (h.inv.claimed h.built),
    fun hn => absurd ((hb.trans h.built).symm.trans hn) nofun, hl⟩

theorem AtRest.loadClear {u : State} (h : AtRest u) : IdleInv u.loadClear := by
  refine h.idleInv_of_link rfl rfl h.inv.memory rfl rfl rfl ?_
  rw [State.loadClear, State.triggerData_link]
  constructor <;> simp [h.link, Link.claimedIdle, Link.readPending]

theorem AtRest.loadDelay {u : State} (h : AtRest u) (n : DelayWord) : IdleInv (u.loadDelay n) := by
  refine h.idleInv_of_link rfl rfl h.inv.memory rfl rfl rfl ?_
  rw [State.loadDelay, State.triggerDelay_link]
  constructor <;> simp [h.link, Link.claimedIdle]

theorem AtRest.loadDelayIf {u : State} (h : AtRest u) (n : DelayWord) : IdleInv (u.loadDelayIf n) := by
  by_cases hn : n = 0#16
  · subst hn
    exact h.inv
  · rw [State.loadDelayIf_of_ne hn]
    exact h.loadDelay n

/-- The words of a timed write in flight, behind its delay or without one (42_cycled_dispatch R201). -/
theorem AtRest.loadCycled {u : State} (h : AtRest u) (m : BusAddr) {p : Select} (hp : p.getLsbD 0 = false) (d : Byte)
    (n : DelayWord) : IdleInv ((u.loadDelayIf n).loadCycled m p d) := by
  rw [loadDelayIf_loadCycled h.link]
  have hw : (56#16 ||| BitVec.setWidth 16 p)[0] = false := by simpa using hp
  refine h.idleInv_of_link rfl rfl h.inv.memory rfl rfl (by simp only [State.fullyClaimed, h.link]; rfl) ?_
  by_cases hn : n = 0#16 <;> constructor <;> simp [hn, Link.claimedIdle, Link.readPending, cwIsRead, hw]

end Sys2Proof.Machine
end

section
/-! Every operation and every move at the boundary keeps the invariant of the controller. -/

namespace Sys2Proof.Machine

/-! ### Bring-up and resynchronisation -/

/-- A block that bring-up has halted, with nothing in flight (60_exceptions R273). -/
theorem controllerInv_of_halted {t : State} (hh : t.halted = true) (hp : t.phase = .halted) (hm : Memory.wf t.shadow)
    (ht : t.todo = []) (hb : t.busBuilt = false) (hd : t.link.drained = true) (ho : t.link.bothOpen = true) :
    ControllerInv t := by
  have hc := (Link.open_iff.mp (Link.Open.of_drained hd ho)).1
  refine ⟨hm, by simp [hh, hp], fun _ => hb, fun h => ?_, fun _ => ⟨hd, ho⟩, ?_, hc, ?_, ?_, ?_, ?_, fun _ h => ?_⟩
  · exact absurd (hb.symm.trans h) nofun
  · simp [hp, Phase.isWait]
  · simp [hp]
  · simp [hp]
  · simp [hp, Phase.isWait]
  · simp [State.todoFits, hp, ht]
  · exact absurd (hh.symm.trans h) nofun

/-- Bring-up from an idle block without a bus is refused, fatal, or ends at rest (40_bringup R161, R162). -/
theorem buildBus_sound {s : State} (h : IdleInv s) (hb : s.busBuilt = false) :
    (∃ r, buildBus s = .refused r) ∨
    ∃ t, buildBus s = .next t ∧ ((t.halted = true ∧ ControllerInv t) ∨ (t.halted = false ∧ AtRest t)) := by
  obtain ⟨-, e⟩ | ⟨divBus, divClk, -, ⟨-, e⟩ | ⟨-, -, e⟩ | ⟨-, -, e⟩⟩ := buildBus_cases s
  · exact .inl ⟨_, e⟩
  · exact .inr ⟨_, e, .inl ⟨rfl, controllerInv_of_halted rfl rfl h.memory h.todo hb (h.unbuilt hb).1 h.link.bothOpen⟩⟩
  · exact .inr ⟨_, e, .inl ⟨rfl, controllerInv_of_halted rfl rfl h.memory h.todo hb (h.unbuilt hb).1 h.link.bothOpen⟩⟩
  · exact .inr ⟨_, e, .inr ⟨h.live, ⟨h.idle, h.live, h.memory, h.todo, fun _ => rfl, nofun, Link.Open.of_drained rfl rfl⟩,
      rfl, rfl⟩⟩

/-- The teardown leaves an idle block without a bus (46_resync R255). -/
theorem IdleInv.teardown {s : State} (h : IdleInv s) : IdleInv s.teardown :=
  ⟨h.idle, h.live, h.memory, h.todo, nofun, fun _ => ⟨rfl, s.teardown_fullyReleased⟩, Link.Open.of_drained rfl rfl⟩

/-- Stopping running sequencers and starting them again leaves them as they were (46_resync R257). -/
theorem SequencerSet.restart {q : SequencerSet} (h1 : q.ctrl.running = true) (h2 : q.data.running = true)
    (h3 : q.clk.running = true) (h4 : q.dly.running = true) : (q.setRunning false).setRunning true = q := by
  obtain ⟨⟨_, _, _, _, _, _⟩, ⟨_, _, _, _, _, _⟩, ⟨_, _, _, _, _, _⟩, ⟨_, _, _, _, _, _⟩⟩ := q
  simp only at h1 h2 h3 h4
  subst h1 h2 h3 h4
  rfl

/-- Both variants of the restart end in the same state when everything was running. -/
theorem State.syncPhases_eq {s : State} (h : (s.seqs.setRunning false).setRunning true = s.seqs) :
    s.syncPhases = { s with phaseAligned := true, trace := s.trace ++ [.phaseSync] } := by
  simp only [State.syncPhases, h, State.emit]
  split <;> rfl

theorem AtRest.syncPhases_eq {s : State} (h : AtRest s) :
    s.syncPhases = { s with phaseAligned := true, trace := s.trace ++ [.phaseSync] } := by
  have hc := h.inv.claimed h.built
  simp only [State.fullyClaimed, Bool.and_eq_true] at hc
  obtain ⟨⟨⟨⟨⟨⟨⟨⟨-, hctrl⟩, -, hdata⟩, -, hclk⟩, -, hdly⟩, -⟩, -⟩, -⟩, -⟩ := hc
  exact State.syncPhases_eq (SequencerSet.restart hctrl hdata hclk hdly)

theorem AtRest.syncPhases {s : State} (h : AtRest s) : AtRest s.syncPhases := by
  rw [h.syncPhases_eq]
  exact h.congr h.inv.idle rfl h.inv.memory rfl rfl rfl rfl

/-! ### The operations -/

/-- The answer port is no part of the invariant (log 3). -/
theorem ControllerInv.returning {s : State} (hi : ControllerInv s) (r : Result) : ControllerInv (s.returning r) := hi

theorem IdleInv.setShadow {s : State} (h : IdleInv s) {a : Byte} (ha : a.toNat < 128) (v : Byte) :
    IdleInv (s.setShadow a v) := h.congr h.idle rfl (Memory.write_wf h.memory ha) rfl rfl rfl rfl

theorem execRead_sound {a d : Byte} {s : State} (hi : ControllerInv s) : (execRead a d s).Sound := by
  refine accept_sound fun hready => ?_
  have h := hi.toIdle hready.1
  have hrest := hi.settle_atRest hready
  rw [h.afterHold_eq]
  rcases routeIn_cases s.settle.conf.region a with ⟨-, hr⟩ | ⟨-, -, hr⟩ | ⟨-, -, hr⟩ | ⟨ha, -, -, hr⟩ <;> simp only [hr]
  · trivial
  · exact h.settle.controllerInv.returning _
  · trivial
  · cases he : s.settle.edgeAvailable with
    | true =>
      rw [runTasks_done (t := .await .rx) (await_loadRead _ _ d hrest.link hrest.busSequencersRun he)]
      refine runTasks_idle_sound (by simp [tasksPaired, Task.launches, Task.plain, routable, ha]) ?_ hrest.built
      exact hrest.inv.congr rfl rfl hrest.inv.memory rfl rfl rfl rfl
    | false =>
      rw [runTasks_blocked (t := .await .rx) (await_loadRead_stuck _ _ d hrest.link he)]
      exact controllerInv_stuckRead hrest he _ _ d (by simp [tasksPaired, Task.launches, Task.plain, routable, ha])

theorem cycledWritePart_sound {a d : Byte} {n : DelayWord} {u : State} (h : AtRest u) :
    (cycledWritePart a d (u.loadDelayIf n)).Sound := by
  have hd := h.loadDelayIf n
  unfold cycledWritePart
  rcases routeIn_cases (u.loadDelayIf n).conf.region a with ⟨-, hr⟩ | ⟨ha, -, hr⟩ | ⟨-, -, hr⟩ | ⟨ha, -, hp, hr⟩ <;>
    simp only [hr]
  · trivial
  · split
    · exact (hd.setShadow ha d).controllerInv.returning _
    · exact hd.controllerInv.returning _
  · trivial
  · exact ((h.loadCycled _ hp d n).setShadow ha d).controllerInv.returning _

theorem execCycledDispatch_sound {a d : Byte} {n : DelayWord} {s : State} (hi : ControllerInv s) :
    (execCycledDispatch a d n s).Sound := by
  refine accept_sound fun hready => ?_
  have hrest := hi.settle_atRest hready
  cases hs : honouredSentinel a d n with
  | true =>
    simp only [Bool.or_true, ↓reduceIte, (hi.toIdle hready.1).afterHold_eq]
    rw [runTasks_done (t := .await .dly) (await_loadDelay hrest n)]
    exact (hrest.congr hrest.inv.idle rfl hrest.inv.memory rfl rfl rfl rfl).inv.controllerInv
  | false =>
    cases hr : routable a with
    | true =>
      have e := execCycledDispatch_eq (hi.toIdle hready.1) hready.2.2 (by simpa [routable] using hr) d n
      rw [execCycledDispatch, accept_built hready, hs, hr] at e
      rw [e]
      exact cycledWritePart_sound hrest
    | false => simp [Answer.Sound]

theorem execClearBus_sound {a d : Byte} {s : State} (hi : ControllerInv s) : (execClearBus a d s).Sound :=
  accept_sound fun hready => by
    rw [(hi.toIdle hready.1).afterHold_eq]
    exact (hi.settle_atRest hready).loadClear.controllerInv.returning _

theorem execEnable_sound {s : State} (hi : ControllerInv s) : (execEnable s).Sound :=
  accept_sound fun hready => by
    have hrest := hi.settle_atRest hready
    rw [(hi.toIdle hready.1).afterHold_eq]
    refine runTasks_idle_sound (by rw [tasksPaired_unmute]; rfl) ?_ hrest.built
    exact hrest.inv.congr hrest.inv.idle rfl hrest.inv.memory rfl rfl rfl rfl

theorem execDisable_sound {s : State} (hi : ControllerInv s) : (execDisable s).Sound :=
  accept_sound fun hready => by
    have hrest := hi.settle_atRest hready
    rw [(hi.toIdle hready.1).afterHold_eq]
    exact runTasks_idle_sound (by rw [tasksPaired_mute]; rfl) hrest.inv hrest.built

theorem execPauseToggle_sound {s : State} (hi : ControllerInv s) : (execPauseToggle s).Sound :=
  accept_sound fun hready => by
    refine runTasks_idle_sound ?_ (hi.toIdle hready.1) hready.2.2
    split
    · rw [tasksPaired_unmute]; rfl
    · rw [tasksPaired_mute]; rfl

theorem execHardReset_sound {s : State} (hi : ControllerInv s) : (execHardReset s).Sound :=
  accept_sound fun hmet => by
    have h := hi.idle_of_met hmet
    rw [h.afterHold_eq, State.resetPulse_eq]
    exact (h.settle.congr h.settle.idle rfl h.settle.memory rfl rfl rfl rfl).controllerInv

theorem execInitPins_sound {s : State} (hi : ControllerInv s) : (execInitPins s).Sound :=
  accept_sound fun hmet => by
    have h := hi.idle_of_met hmet
    rw [h.afterHold_eq]
    exact (h.settle.congr h.settle.idle rfl h.settle.memory rfl rfl rfl rfl).controllerInv

theorem execClearRegisters_sound {c : Byte} {s : State} (hi : ControllerInv s) : (execClearRegisters c s).Sound :=
  accept_sound fun hready => by
    split
    · exact runTasks_idle_sound (by rw [tasksPaired_clear]; rfl) (hi.toIdle hready.1) hready.2.2
    · trivial

theorem execSetupBus_sound {s : State} (hi : ControllerInv s) : (execSetupBus s).Sound :=
  accept_sound fun hmet => by
    obtain ⟨r, e⟩ | ⟨t, e, ⟨-, ht⟩ | ⟨-, ht⟩⟩ := buildBus_sound (hi.idle_of_met hmet) hmet.2.2 <;> rw [e]
    · trivial
    · exact ht.returning _
    · exact ht.inv.controllerInv.returning _

theorem execRebuildBus_sound {s : State} (hi : ControllerInv s) : (execRebuildBus s).Sound :=
  accept_sound fun hready => by
    obtain ⟨r, e⟩ | ⟨t, e, ⟨hh, ht⟩ | ⟨hh, ht⟩⟩ := buildBus_sound (hi.toIdle hready.1).teardown rfl <;> rw [e]
    · trivial
    · show ControllerInv (t.afterRebuild.returning .none)
      rw [State.afterRebuild, if_pos hh]
      exact ht.returning _
    · show ControllerInv (t.afterRebuild.returning .none)
      rw [State.afterRebuild, if_neg (by rw [hh]; nofun)]
      exact ht.syncPhases.inv.controllerInv.returning _

theorem execDetectExternalClock_sound {s : State} (hi : ControllerInv s) : (execDetectExternalClock s).Sound :=
  accept_sound fun hmet => by
    have h := hi.idle_of_met hmet
    refine ControllerInv.returning (IdleInv.controllerInv ?_) _
    exact h.congr h.idle rfl h.memory rfl rfl rfl rfl

theorem execPhaseSync_sound {s : State} (hi : ControllerInv s) : (execPhaseSync s).Sound :=
  accept_sound fun hready => by
    rw [(hi.toIdle hready.1).afterHold_eq]
    exact (hi.settle_atRest hready).syncPhases.inv.controllerInv.returning _

theorem execComputeClockDivider_sound {rate : Nat} {s : State} (hi : ControllerInv s) :
    (execComputeClockDivider rate s).Sound := by
  unfold execComputeClockDivider
  split
  · trivial
  · exact hi.returning _

theorem execRoute_sound {a : Byte} {s : State} (hi : ControllerInv s) : (execRoute a s).Sound := by
  unfold execRoute
  split
  · trivial
  · exact hi.returning _

/-- Every operation answers a state with the invariant or is refused. -/
theorem exec_sound (i : Instr) {s : State} (hi : ControllerInv s) : Answer.Sound (exec i s) := by
  have tasks : ∀ {ts : List Task}, tasksPaired ts false = true →
      (accept .built s fun s => runTasks ts s).Sound := fun hts =>
    accept_sound fun hready => runTasks_idle_sound hts (hi.toIdle hready.1) hready.2.2
  cases i with
  | write a d => exact tasks (ts := [.launchWrite a d, .await .ctrl, .answer (.byte 0x00#8)]) rfl
  | read a d => exact execRead_sound hi
  | pause a d => exact tasks (ts := [.launchPause, .await .ctrl, .answer (.byte 0x00#8)]) rfl
  | clearBus a d => exact execClearBus_sound (a := a) (d := d) hi
  | cycledDispatch a d n => exact execCycledDispatch_sound hi
  | enable => exact execEnable_sound hi
  | disable => exact execDisable_sound hi
  | pauseToggle => exact execPauseToggle_sound hi
  | hardReset => exact execHardReset_sound hi
  | clearRegisters c => exact execClearRegisters_sound hi
  | initPins => exact execInitPins_sound hi
  | setupBus => exact execSetupBus_sound hi
  | rebuildBus => exact execRebuildBus_sound hi
  | computeClockDivider rate => exact execComputeClockDivider_sound hi
  | detectExternalClock => exact execDetectExternalClock_sound hi
  | route a => exact execRoute_sound hi
  | phaseSync => exact execPhaseSync_sound hi
  | mute => exact tasks (tasksPaired_mute s.conf.numChips [.answer .none])
  | unmute => exact tasks (tasksPaired_unmute s.conf.numChips [.answer .none])

/-! ### The boundary -/

theorem issue_sound (r : Request) {s : State} (hi : ControllerInv s) : (issue r s).Sound := by
  unfold issue
  split
  · exact exec_sound _ hi
  · exact accept_sound fun _ => hi.returning _
  · exact accept_sound fun _ => trivial

/-- In phase HALTED there is no bus, so no agent has a step. -/
theorem ControllerInv.enables_of_halted {s : State} (hi : ControllerInv s) (hp : s.phase = .halted) (a : AgentStep) :
    s.enables a = false := by
  obtain ⟨-, hh, hb, -, hd, -⟩ := hi
  exact State.enables_of_drained (hd (hb (hh.mpr hp))).1 a

/-- Agents that move between operations keep the invariant; they move only in phase IDLE. -/
theorem continueBlocked_sound {s t : State} (hi : ControllerInv s) (hidle : IdleInv s → IdleInv t)
    (hsame : (∀ a, s.enables a = false) → t = s) : (continueBlocked t).Sound := by
  cases hw : s.phase.isWait with
  | true => rw [hsame (hi.enables_of_wait hw), continueBlocked, if_pos hw, hi.resume_of_wait hw]; exact hi
  | false =>
    cases hp : s.phase with
    | idle =>
      have ht := hidle (hi.toIdle hp)
      rw [continueBlocked, ht.idle]
      exact ht.controllerInv
    | halted => rw [hsame (hi.enables_of_halted hp), continueBlocked, hp]; exact hi
    | _ => simp [hp, Phase.isWait] at hw

theorem agentMove_sound (a : AgentStep) {s : State} (hi : ControllerInv s) : (agentMove a s).Sound :=
  continueBlocked_sound hi (fun h => agentsKeep_idleInv.tryAgent h a) fun hno => by simp [State.tryAgent, hno]

theorem quietMove_sound {s : State} (hi : ControllerInv s) : (quietMove s).Sound :=
  continueBlocked_sound hi agentsKeep_idleInv.tick State.tick_of_no_step

theorem loadConfiguration_sound (c : Conf) {s : State} (hi : ControllerInv s) : (loadConfiguration c s).Sound := by
  unfold loadConfiguration
  split
  · exact hi
  · trivial

/-- A change of the environment brings no edge back (log 7). -/
theorem worldChange_sound (e : Env) {s : State} (hi : ControllerInv s) : (worldChange e s).Sound := by
  obtain ⟨h1, h2, h3, h4, h5, hwait, h7⟩ := hi
  refine ⟨h1, h2, h3, h4, h5, fun hw => ?_, h7⟩
  obtain ⟨hb, hg, he⟩ := hwait hw
  exact ⟨hb, hg, edgeAvailable_of_worldChange rfl he⟩

theorem step_sound {s : State} (hi : ControllerInv s) : Answer.Sound (step s) := by
  have hi' : ∀ rest, ControllerInv { s with inbox := rest } := fun _ => hi
  unfold step
  split
  · exact quietMove_sound hi
  · exact issue_sound _ (hi' _)
  · exact loadConfiguration_sound _ (hi' _)
  · exact worldChange_sound _ (hi' _)
  · exact agentMove_sound _ (hi' _)

/-- Settles O54. -/
theorem controllerInvEveryStep : Obligations.ControllerInvEveryStep := by
  intro s t hi hstep
  have h := step_sound hi
  rwa [hstep] at h

/-- Settles O55: the only fault is a hold that never ends, and under the invariant every hold ends. -/
theorem noStepFaults : Obligations.NoStepFaults := by
  intro s f hi hstep
  have h := step_sound hi
  rwa [hstep] at h

end Sys2Proof.Machine
end

section
/-! Stuck for ever, and the refusals that precede every operation (60_exceptions R274, R275). -/

namespace Sys2Proof.Machine

/-! ### A stuck transaction ends the run -/

/-- Every operation but the two pure ones makes the same first tests; this is what it needs of the bus. -/
def busNeed : Instr → BusNeed
  | .initPins | .hardReset => .either
  | .setupBus | .detectExternalClock => .unbuilt
  | _ => .built

/-- Every operation but the two pure ones is its first tests and a body (60_exceptions R275). -/
theorem exec_eq_accept {i : Instr} (hroute : ∀ a, i ≠ .route a) (hrate : ∀ r, i ≠ .computeClockDivider r) (s : State) :
    ∃ body, exec i s = accept (busNeed i) s body := by
  cases i with
  | route a => exact absurd rfl (hroute a)
  | computeClockDivider r => exact absurd rfl (hrate r)
  | write a d => exact ⟨_, execWrite.eq_1 a d s⟩
  | read a d => exact ⟨_, execRead.eq_1 a d s⟩
  | pause a d => exact ⟨_, execPause.eq_1 a d s⟩
  | clearBus a d => exact ⟨_, execClearBus.eq_1 a d s⟩
  | cycledDispatch a d n => exact ⟨_, execCycledDispatch.eq_1 a d n s⟩
  | enable => exact ⟨_, execEnable.eq_1 s⟩
  | disable => exact ⟨_, execDisable.eq_1 s⟩
  | pauseToggle => exact ⟨_, execPauseToggle.eq_1 s⟩
  | hardReset => exact ⟨_, execHardReset.eq_1 s⟩
  | clearRegisters c => exact ⟨_, execClearRegisters.eq_1 c s⟩
  | initPins => exact ⟨_, execInitPins.eq_1 s⟩
  | setupBus => exact ⟨_, execSetupBus.eq_1 s⟩
  | rebuildBus => exact ⟨_, execRebuildBus.eq_1 s⟩
  | detectExternalClock => exact ⟨_, execDetectExternalClock.eq_1 s⟩
  | phaseSync => exact ⟨_, execPhaseSync.eq_1 s⟩
  | mute => exact ⟨_, execMute.eq_1 s⟩
  | unmute => exact ⟨_, execUnmute.eq_1 s⟩

theorem accept_refused {need : BusNeed} {s : State} {r : Refusal} (h : callRefusal need s = some r)
    (body : State → Answer) : accept need s body = .refused r := by simp only [accept, h]

theorem callRefusal_of_wait {s : State} (hw : s.phase.isWait = true) (need : BusNeed) :
    callRefusal need s = some .concurrentInvocation := by
  unfold callRefusal
  cases hp : s.phase <;> simp_all [Phase.isWait]

theorem callRefusal_of_halted {s : State} (hp : s.phase = .halted) (need : BusNeed) :
    callRefusal need s = some .halted := by simp only [callRefusal, hp]

theorem callRefusal_without_bus {s : State} (hp : s.phase = .idle) (hh : s.halted = false) (hb : s.busBuilt = false) :
    callRefusal .built s = some .busNotBuilt := by simp [callRefusal, hp, hh, hb]

theorem callRefusal_with_bus {s : State} (hp : s.phase = .idle) (hh : s.halted = false) (hb : s.busBuilt = true) :
    callRefusal .unbuilt s = some .alreadyBuilt := by simp [callRefusal, hp, hh, hb]

/-- Settles O24. -/
theorem busyAndHaltedRefuse : Obligations.BusyAndHaltedRefuse := by
  intro i s hroute hrate
  obtain ⟨body, e⟩ := exec_eq_accept hroute hrate s
  exact ⟨fun hw => e.trans (accept_refused (callRefusal_of_wait hw _) body),
    fun hp => e.trans (accept_refused (callRefusal_of_halted hp _) body)⟩

/-- Settles O25. -/
theorem buildStateRefuses : Obligations.BuildStateRefuses := by
  intro i s hp hh
  constructor
  · intro hb hinit hreset hsetup hdetect hroute hrate
    obtain ⟨body, e⟩ := exec_eq_accept hroute hrate s
    have hneed : busNeed i = .built := by cases i <;> first | rfl | contradiction
    rw [e, hneed, accept_refused (callRefusal_without_bus hp hh hb)]
  · intro hb hi
    obtain ⟨body, e⟩ := exec_eq_accept (i := i) (by rcases hi with rfl | rfl <;> nofun)
      (by rcases hi with rfl | rfl <;> nofun) s
    have hneed : busNeed i = .unbuilt := by rcases hi with rfl | rfl <;> rfl
    rw [e, hneed, accept_refused (callRefusal_with_bus hp hh hb)]

/-- In a wait an operation is refused or leaves an answer and nothing else (log 16). -/
theorem exec_of_wait {i : Instr} {s t : State} (hw : s.phase.isWait = true) (h : exec i s = .next t) :
    t = { s with result := t.result } := by
  by_cases hroute : ∃ a, i = .route a
  · obtain ⟨a, rfl⟩ := hroute
    simp only [exec, execRoute] at h
    split at h
    · cases h
    · cases h; rfl
  by_cases hrate : ∃ r, i = .computeClockDivider r
  · obtain ⟨r, rfl⟩ := hrate
    simp only [exec, execComputeClockDivider] at h
    split at h
    · cases h
    · cases h; rfl
  rw [(busyAndHaltedRefuse i s (by simpa using hroute) (by simpa using hrate)).1 hw] at h
  cases h

/-- A request in a wait leaves at most an answer. -/
theorem issue_of_wait {r : Request} {s t : State} (hw : s.phase.isWait = true) (h : issue r s = .next t) :
    t = { s with result := t.result } := by
  unfold issue at h
  split at h
  · exact exec_of_wait hw h
  · rw [execIgnored, accept_refused (callRefusal_of_wait hw _)] at h
    cases h
  · rw [refuseUnknown, accept_refused (callRefusal_of_wait hw _)] at h
    cases h

/-- One step from a stuck wait: the inbox, the environment's answers and the answer port aside, nothing changes. -/
theorem step_of_wait {s t : State} (hi : ControllerInv s) (hw : s.phase.isWait = true) (h : step s = .next t) :
    t = { s with inbox := t.inbox, env := t.env, result := t.result } := by
  unfold step at h
  split at h
  · rw [hi.quietMove_of_wait hw] at h
    cases h; rfl
  · next rest _ =>
    have ht := issue_of_wait (s := { s with inbox := rest }) hw h
    rw [ht]
  · next rest _ =>
    have hp : ({ s with inbox := rest } : State).phase ≠ .idle := fun hp => by
      simp only at hp
      simp [hp, Phase.isWait] at hw
    rw [loadConfiguration, if_neg hp] at h
    cases h
  · cases h; rfl
  · next rest _ =>
    rw [ControllerInv.agentMove_of_wait (s := { s with inbox := rest }) hi hw] at h
    cases h; rfl

/-- Settles O22: the invariant goes on through every step, and with it the wait without an edge. -/
theorem stuckIsForEver : Obligations.StuckIsForEver := by
  intro n
  induction n with
  | zero =>
    intro s t hi hw hrun
    cases hrun
    exact ⟨rfl, (hi.2.2.2.2.2.1 hw).2.2⟩
  | succ n ih =>
    intro s t hi hw hrun
    cases hstep : step s with
    | fault f => simp only [Host.Core.run, core, hstep] at hrun; cases hrun
    | refused r => simp only [Host.Core.run, core, hstep] at hrun; cases hrun
    | next u =>
      have hu := step_of_wait hi hw hstep
      have hwu : u.phase.isWait = true := by rw [hu]; exact hw
      obtain ⟨ht, he⟩ := ih u t (controllerInvEveryStep s u hi hstep) hwu
        (by simpa only [Host.Core.run, core, hstep] using hrun)
      exact ⟨by rw [ht, hu], he⟩

end Sys2Proof.Machine
end

section
/-! The packed words (30_encoding R126 to R132) and the router as an operation (43_router R210 to R217). -/

namespace Sys2Proof.Machine

/-! ### The packed words -/

/-- The base words set fixed bits, and a select pattern lands in bits 2:0 (30_encoding R126, R129). -/
theorem packControl_bits : ∀ (p : Select) (k : Nat), k < 16 →
    (packControl cwBase p).getLsbD k = (p.getLsbD k || k == 4 || k == 5) ∧
    (packControl cwBase p ||| cwReadBit).getLsbD k = (p.getLsbD k || k == 0 || k == 4 || k == 5) ∧
    (packControl cwBaseCycled p).getLsbD k = (p.getLsbD k || k == 3 || k == 4 || k == 5) := by decide

/-- Bits 15:14 of a data word are zero (30_encoding R130). -/
theorem packData_bits_14_15 (dirmask : BitVec 16) (masked : BusAddr) (data : Byte) :
    (packData dirmask masked data).extractLsb' 14 2 = 0#2 := by
  apply BitVec.eq_of_getLsbD_eq
  intro i hi
  rw [packData_eq_append]
  simp only [BitVec.getLsbD_extractLsb', hi, decide_true, Bool.true_and]
  rw [BitVec.getLsbD_append, if_pos (by omega), BitVec.getLsbD_append, if_neg (by omega)]
  simp

/-- The upper half of a data word is the direction mask (30_encoding R130). -/
theorem packData_dirMask (dirmask : BitVec 16) (masked : BusAddr) (data : Byte) :
    (packData dirmask masked data).extractLsb' 16 16 = dirmask := by
  apply BitVec.eq_of_getLsbD_eq
  intro i hi
  rw [packData_eq_append]
  simp only [BitVec.getLsbD_extractLsb', hi, decide_true, Bool.true_and]
  rw [BitVec.getLsbD_append, if_neg (by omega), Nat.add_sub_cancel_left]

/-- Settles O9. -/
theorem packedWordFields : Obligations.PackedWordFields :=
  ⟨packControl_bits, fun dirmask masked data => ⟨dwData_packData dirmask masked data, dwAddr_packData dirmask masked data,
    packData_bits_14_15 dirmask masked data, packData_dirMask dirmask masked data⟩⟩

/-! ### The router -/

theorem execRoute_ok {s : State} {a : Byte} {r : Routed} (h : routeIn s.conf.region a = .ok r) :
    execRoute a s = .next (s.returning (.routed r)) := by simp only [execRoute, h]

theorem execRoute_error {s : State} {a : Byte} {r : Refusal} (h : routeIn s.conf.region a = .error r) :
    execRoute a s = .refused r := by simp only [execRoute, h]

/-- A routable address is answered from the pattern of its region (43_router R214 to R216). -/
theorem routeIn_of_lt {table : Vector Region 4} {a : Byte} (ha : a.toNat < 0x80) {r : Region}
    (hr : table[regionIndex a] = r) : routeIn table a =
      if patternDisabled r.pattern then .ok .disabled
      else if patternReserved r.pattern then .error .reservedPattern
      else .ok (.entry (maskAddress r.mask a) r.pattern) := by
  simp only [routeIn, routable, ha, decide_true, ↓reduceIte, hr]

/-- A pattern with bit 0 clear is enabled unless it is 0b110 (43_router R214). -/
theorem pattern_enabled : ∀ p : Select, p.getLsbD 0 = false → p ≠ 0b110#3 →
    patternDisabled p = false ∧ patternReserved p = false := by decide

/-- A pattern with bit 0 set is reserved unless it is 0b111 (43_router R216). -/
theorem pattern_reserved : ∀ p : Select, p.getLsbD 0 = true → p ≠ 0b111#3 →
    patternDisabled p = false ∧ patternReserved p = true := by decide

/-- The entry at the index of an address is that of its region. -/
theorem region_of_getElem? {table : Vector Region 4} {a : Byte} {r : Region}
    (h : table[(a.extractLsb' 5 2).toNat]? = some r) : table[regionIndex a] = r := by
  obtain ⟨_, e⟩ := Vector.getElem?_eq_some_iff.mp h
  exact e

/-- Settles O10. -/
theorem routeAnswers : Obligations.RouteAnswers := by
  intro a s r hr
  have hregion := region_of_getElem? hr
  refine ⟨fun ha hp => execRoute_ok ?disabled, fun ha h0 hp => execRoute_ok ?enabled,
    fun ha h0 hp => execRoute_error ?reserved, fun ha => execRoute_error (routeIn_of_le ha)⟩
  case disabled =>
    have hd : patternDisabled r.pattern = true := by rcases hp with hp | hp <;> rw [hp] <;> rfl
    rw [routeIn_of_lt ha hregion, if_pos hd]
  case enabled =>
    obtain ⟨hd, hn⟩ := pattern_enabled _ h0 hp
    rw [routeIn_of_lt ha hregion, hd, hn]
    rfl
  case reserved =>
    obtain ⟨hd, hn⟩ := pattern_reserved _ h0 hp
    rw [routeIn_of_lt ha hregion, hd, hn]
    rfl

/-- Every region holds 32 of the 128 addresses (43_router R217). -/
theorem regions_hold_32 : ∀ r : Fin 4,
    ((List.range 128).filter fun n => decide (regionIndex (BitVec.ofNat 8 n) = r)).length = 32 := by decide

theorem regionIndex_eq {a : Byte} (ha : a.toNat < 0x80) : (regionIndex a).val = a.toNat / 32 := by
  simp only [regionIndex, BitVec.val_toFin, BitVec.extractLsb'_toNat, Nat.shiftRight_eq_div_pow]
  omega

/-- The masked address keeps six bits (43_router R213). -/
theorem maskAddress_toNat (mask a : Byte) : (maskAddress mask a).toNat = (a &&& mask &&& 0x3F#8).toNat := by
  have h63 := Nat.and_two_pow_sub_one_eq_mod (a &&& mask).toNat 6
  rw [BitVec.toNat_and (a &&& mask)]
  simpa [maskAddress, BitVec.extractLsb'_toNat] using h63.symm

theorem patternDisabled_eq_true_iff : ∀ p : Select, patternDisabled p = true ↔ p.extractLsb' 1 2 = 0b11#2 := by decide

/-- Settles O11. -/
theorem routePartitionsAddresses : Obligations.RoutePartitionsAddresses := by
  refine ⟨regions_hold_32, fun table a ha => ⟨regionIndex_eq ha, fun m p hr => ?entry, ?disabled⟩⟩
  case entry =>
    obtain ⟨-, rfl, rfl, h0⟩ := routeIn_entry hr
    exact ⟨maskAddress_toNat _ _, rfl, h0, by rw [cwIsRead_write, h0], cwIsRead_read _⟩
  case disabled =>
    rw [← patternDisabled_eq_true_iff, routeIn_of_lt ha rfl]
    cases patternDisabled table[regionIndex a].pattern with
    | true => simp
    | false => cases patternReserved table[regionIndex a].pattern <;> simp

end Sys2Proof.Machine
end

section
/-! Pins, bring-up, clock and resynchronisation (40_bringup, 44_lifecycle R227, 45_clock, 46_resync), and the moves at the
boundary (20_memory R90; log 1). -/

namespace Sys2Proof.Machine

/-! ### The pins and the reset pulse -/

/-- Settles O40. -/
theorem initPinsCompletes : Obligations.InitPinsCompletes := by
  intro s hi hp hh
  refine ⟨State.settle_of_drained, ?_⟩
  rw [exec, execInitPins, accept_either hp hh, (hi.toIdle hp).afterHold_eq]
  rfl

/-- The events of the reset pulse, held when some chip is real (44_lifecycle R227). -/
theorem resetEvents_eq (c : Conf) (us : Rat) (l : List Event) :
    l ++ [Event.resAssert] ++ (if anyReal c then [Event.resHold us] else []) ++ [Event.resDeassert] =
      l ++ (if true ∈ c.chipReal.toList then [Event.resAssert, Event.resHold us, Event.resDeassert]
        else [Event.resAssert, Event.resDeassert]) := by
  by_cases h : anyReal c = true
  · rw [if_pos h, if_pos ((anyReal_iff c).mp h)]
    simp
  · rw [if_neg h, if_neg fun hm => h ((anyReal_iff c).mpr hm)]
    simp

/-- Settles O32. -/
theorem hardResetCompletes : Obligations.HardResetCompletes := by
  intro s hi hp hh
  refine ⟨State.settle_of_drained, ?_⟩
  rw [exec, execHardReset, accept_either hp hh, (hi.toIdle hp).afterHold_eq, State.resetPulse_eq, resetEvents_eq,
    State.settle_conf, State.settle_plat, State.returning]
  simp only [State.settle_conf, State.settle_plat]

/-! ### Bring-up -/

/-- `SETUP_BUS` with a positive rate: the two fatal ends, and the built bus (40_bringup R161, R162). -/
theorem buildBus_pos {s : State} (hrate : 0 < s.conf.clockRate) :
    (s.env.freeSeq < 4 → buildBus s = .next (raiseFatal .sequencer { s with
      divBus := busDivider s.plat s.conf.clockRate, divClk := clkDivider s.plat s.conf.clockRate })) ∧
    (4 ≤ s.env.freeSeq → s.env.freeCh < 4 → buildBus s = .next (raiseFatal .channel (({ s with
      divBus := busDivider s.plat s.conf.clockRate, divClk := clkDivider s.plat s.conf.clockRate } : State).claimSequencers
        (busDivider s.plat s.conf.clockRate) (clkDivider s.plat s.conf.clockRate)))) ∧
    (4 ≤ s.env.freeSeq → 4 ≤ s.env.freeCh → buildBus s = .next ((({ s with
      divBus := busDivider s.plat s.conf.clockRate, divClk := clkDivider s.plat s.conf.clockRate } : State).claimSequencers
        (busDivider s.plat s.conf.clockRate) (clkDivider s.plat s.conf.clockRate)).finishBuild
          (busDivider s.plat s.conf.clockRate) (clkDivider s.plat s.conf.clockRate))) := by
  obtain ⟨h0, -⟩ | ⟨divBus, divClk, hd, h⟩ := buildBus_cases s
  · omega
  rw [computeDividers_pos _ hrate] at hd
  cases hd
  obtain ⟨h1, e⟩ | ⟨h1, h2, e⟩ | ⟨h1, h2, e⟩ := h
  · exact ⟨fun _ => e, by omega, by omega⟩
  · exact ⟨by omega, fun _ _ => e, by omega⟩
  · exact ⟨by omega, by omega, fun _ _ => e⟩

theorem exec_setupBus_of_build {s t : State} (hp : s.phase = .idle) (hh : s.halted = false) (hb : s.busBuilt = false)
    (h : buildBus s = .next t) : exec .setupBus s = .next (t.returning .none) := by
  rw [exec, execSetupBus, accept_unbuilt hp hh hb, h]
  rfl

theorem exec_rebuildBus_of_build {s t : State} (hready : s.Ready) (h : buildBus s.teardown = .next t) :
    exec .rebuildBus s = .next (t.afterRebuild.returning .none) := by
  rw [exec, execRebuildBus, accept_built hready, h]
  rfl

/-- The sequencers as a build leaves them: the claimed and programmed ones of `claimSequencers`, all started. -/
def State.builtSequencers (s : State) : SequencerSet :=
  (s.claimSequencers (busDivider s.plat s.conf.clockRate) (clkDivider s.plat s.conf.clockRate)).seqs.setRunning true

theorem State.builtSequencers_up (s : State) :
    ∀ x ∈ [s.builtSequencers.ctrl, s.builtSequencers.data, s.builtSequencers.clk, s.builtSequencers.dly],
      x.claimed = true ∧ x.loaded = true ∧ x.running = true := by
  simp only [List.forall_mem_cons, List.not_mem_nil, false_implies, implies_true, and_true]
  exact ⟨⟨rfl, rfl, rfl⟩, ⟨rfl, rfl, rfl⟩, ⟨rfl, rfl, rfl⟩, rfl, rfl, rfl⟩

theorem State.builtSequencers_div (s : State) :
    ∀ x ∈ [s.builtSequencers.ctrl, s.builtSequencers.data, s.builtSequencers.dly],
      x.div = busDivider s.plat s.conf.clockRate := by
  simp only [List.forall_mem_cons, List.not_mem_nil, false_implies, implies_true, and_true]
  exact ⟨rfl, rfl, rfl⟩

/-- Settles O41. -/
theorem setupBusBuilds : Obligations.SetupBusBuilds := by
  intro s hp hh hb hrate hseq hch
  refine ⟨s.builtSequencers, s.builtSequencers_up, s.builtSequencers_div, rfl, ?_⟩
  exact exec_setupBus_of_build hp hh hb ((buildBus_pos hrate).2.2 hseq hch)

/-- Settles O42. -/
theorem setupBusFails : Obligations.SetupBusFails := by
  intro s hp hh hb
  refine ⟨fun h0 => ?_,
    fun hrate hseq => ⟨_, exec_setupBus_of_build hp hh hb ((buildBus_pos hrate).1 hseq), rfl, rfl, hb, rfl, rfl, rfl, rfl,
      rfl, rfl⟩,
    fun hrate hseq hch => ⟨_, exec_setupBus_of_build hp hh hb ((buildBus_pos hrate).2.1 hseq hch), rfl, rfl, hb, ?_, rfl,
      rfl, rfl, rfl, rfl⟩⟩
  · simp only [exec, execSetupBus, accept_unbuilt hp hh hb, buildBus, computeDividers, h0, ↓reduceIte]
    rfl
  · simp only [List.forall_mem_cons, List.not_mem_nil, false_implies, implies_true, and_true]
    exact ⟨⟨rfl, rfl⟩, ⟨rfl, rfl⟩, ⟨rfl, rfl⟩, rfl, rfl⟩

/-! ### Resynchronisation -/

/-- A rebuild that was not fatal ends with `phaseSync`, which finds every sequencer running. -/
theorem State.afterRebuild_of_running {s : State} (hh : s.halted = false)
    (hrun : (s.seqs.setRunning false).setRunning true = s.seqs) :
    s.afterRebuild = { s with phaseAligned := true, trace := s.trace ++ [.phaseSync] } := by
  rw [State.afterRebuild, if_neg (Bool.eq_false_iff.mp hh), State.syncPhases_eq hrun]

/-- Settles O43: the restart of `phaseSync` finds every sequencer running. -/
theorem rebuildBusCompletes : Obligations.RebuildBusCompletes := by
  intro s hready hrate hseq hch
  refine ⟨s.teardown.builtSequencers, s.teardown.builtSequencers_up, s.teardown.builtSequencers_div, rfl, ?_⟩
  rw [exec_rebuildBus_of_build hready ((buildBus_pos (s := s.teardown) hrate).2.2 hseq hch),
    State.afterRebuild_of_running (by exact hready.2.1) rfl]
  simp [State.returning, State.finishBuild, State.claimSequencers, State.teardown, State.emit, State.builtSequencers,
    hready.2.2]

/-- Settles O44. -/
theorem rebuildBusFails : Obligations.RebuildBusFails := by
  intro s hready hrate hshort
  by_cases hseq : s.env.freeSeq < 4
  · refine ⟨_, exec_rebuildBus_of_build hready ((buildBus_pos (s := s.teardown) hrate).1 hseq), rfl, rfl, rfl, rfl, rfl,
      rfl, rfl, ?_, fun _ => ?_, fun h => by omega⟩
    · rw [if_pos hseq]
      exact List.append_assoc _ _ _
    · simp only [List.forall_mem_cons, List.not_mem_nil, false_implies, implies_true, and_true]
      exact ⟨⟨rfl, rfl, rfl⟩, ⟨rfl, rfl, rfl⟩, ⟨rfl, rfl, rfl⟩, rfl, rfl, rfl⟩
  · refine ⟨_, exec_rebuildBus_of_build hready ((buildBus_pos (s := s.teardown) hrate).2.1 (Nat.not_lt.mp hseq)
      (hshort.resolve_left hseq)), rfl, rfl, rfl, rfl, rfl, rfl, rfl, ?_, fun h => absurd h hseq, fun _ => ?_⟩
    · rw [if_neg hseq]
      exact List.append_assoc _ _ _
    · simp only [List.forall_mem_cons, List.not_mem_nil, false_implies, implies_true, and_true]
      exact ⟨⟨rfl, rfl, rfl⟩, ⟨rfl, rfl, rfl⟩, ⟨rfl, rfl, rfl⟩, rfl, rfl, rfl⟩

/-- Settles O45. -/
theorem phaseSyncCompletes : Obligations.PhaseSyncCompletes := by
  intro s hi hready
  rw [exec, execPhaseSync, accept_built hready, (hi.toIdle hready.1).afterHold_eq, (hi.settle_atRest hready).syncPhases_eq]
  rfl

/-! ### The clock -/

/-- Settles O46. -/
theorem computeClockDividerAnswers : Obligations.ComputeClockDividerAnswers := by
  intro rate s hrate
  refine ⟨?_, fun hid => ⟨?_, ?_⟩⟩
  · simp only [exec, execComputeClockDivider, computeDividers, if_neg (Nat.pos_iff_ne_zero.mp hrate)]
    rfl
  · simp only [exec, execComputeClockDivider, computeDividers_pos _ hrate, busDivider_of_identity hid,
      clkDivider_of_identity hid]
    rfl
  · have h0 : (rate : Rat) ≠ 0 := by positivity
    field_simp
    ring

/-- Settles O48. -/
theorem detectExternalClockAnswers : Obligations.DetectExternalClockAnswers := by
  intro s hp hh hb
  refine ⟨s.clockActivity, ?_, ?_⟩
  · simp [State.clockActivity, detectIter]
  · rw [exec, execDetectExternalClock, accept_unbuilt hp hh hb]
    rfl

/-! ### The bring-up sequence -/

/-- What an operation answers from the invariant has the invariant. -/
theorem exec_keeps_inv {i : Instr} {s t : State} (hi : ControllerInv s) (h : exec i s = .next t) : ControllerInv t := by
  have hs := exec_sound i hi
  rwa [h] at hs

/-- Settles O49: each operation of the sequence finds what the one before it leaves. -/
theorem bringUpSequenceCompletes : Obligations.BringUpSequenceCompletes := by
  intro s hi hp hh hb hrate hseq hch
  have hdrained := ((hi.toIdle hp).unbuilt hb).1
  obtain ⟨s1, e1, h1⟩ : ∃ s1, exec .initPins s = .next s1 ∧ _ := ⟨_, (initPinsCompletes s hi hp hh).2, rfl⟩
  rw [State.settle_of_drained hdrained] at h1
  obtain ⟨b, -, hdetect⟩ := detectExternalClockAnswers s1 (by rw [← h1]; exact hp) (by rw [← h1]; exact hh)
    (by rw [← h1]; exact hb)
  obtain ⟨s2, e2, h2⟩ : ∃ s2, exec .detectExternalClock s1 = .next s2 ∧ _ := ⟨_, hdetect, rfl⟩
  obtain ⟨q, hup, -, -, hsetup⟩ := setupBusBuilds s2 (by rw [← h2, ← h1]; exact hp) (by rw [← h2, ← h1]; exact hh)
    (by rw [← h2, ← h1]; exact hb) (by rw [← h2, ← h1]; exact hrate) (by rw [← h2, ← h1]; exact hseq)
    (by rw [← h2, ← h1]; exact hch)
  obtain ⟨s3, e3, h3⟩ : ∃ s3, exec .setupBus s2 = .next s3 ∧ _ := ⟨_, hsetup, rfl⟩
  have i3 : ControllerInv s3 := exec_keeps_inv (exec_keeps_inv (exec_keeps_inv hi e1) e2) e3
  have e4 := phaseSyncCompletes s3 i3 (by rw [← h3, ← h2, ← h1]; exact ⟨hp, hh, rfl⟩)
  rw [State.settle_of_drained (by rw [← h3]; rfl)] at e4
  refine ⟨s1, s2, s3, _, b, e1, e2, e3, e4, ?_⟩
  subst h1 h2 h3
  refine ⟨rfl, rfl, ?_, rfl, rfl, rfl, hp, hh, rfl, rfl, rfl, rfl, ?_⟩
  · simp only [List.forall_mem_cons, List.not_mem_nil, false_implies, implies_true, and_true] at hup
    obtain ⟨⟨h1, h2, h3⟩, ⟨h4, h5, h6⟩, ⟨h7, h8, h9⟩, h10, h11, h12⟩ := hup
    simp [State.fullyClaimed, Link.claimedIdle, *]
  · simp

/-! ### The moves at the boundary -/

theorem continueBlocked_of_idle {s : State} (hp : s.phase = .idle) : continueBlocked s = .next s := by
  rw [continueBlocked, hp]
  rfl

theorem State.enables_with_inbox (s : State) (l : List Stimulus) (a : AgentStep) :
    ({ s with inbox := l } : State).enables a = s.enables a := by cases a <;> rfl

theorem State.perform_with_inbox (s : State) (l : List Stimulus) (a : AgentStep) :
    ({ s with inbox := l } : State).perform a = { s.perform a with inbox := l } := by
  cases a <;> simp only [State.perform] <;> split <;> rfl

theorem quietMove_of_idle {s : State} (hp : s.phase = .idle) : quietMove s = .next s.tick :=
  continueBlocked_of_idle (by rw [State.tick_phase, hp])

/-- Settles O50. -/
theorem boundaryMoves : Obligations.BoundaryMoves := by
  intro s rest
  have quiet : s.inbox = [] → s.phase = .idle → step s = .next s.tick := fun hin hp => by
    simp only [step, hin, quietMove_of_idle hp]
  refine ⟨fun c hin hp => ?_, fun c hin hp => ?_, fun e hin => ?_, fun a hin hp => ?_, quiet, fun a hi hin hp ha => ?_,
    fun hin hp hno => ?_⟩
  · simp only [step, hin, loadConfiguration, hp, ↓reduceIte]
  · simp only [step, hin, loadConfiguration, hp, ↓reduceIte]
  · simp only [step, hin]
    rfl
  · simp only [step, hin]
    rw [agentMove, continueBlocked_of_idle (by rw [State.tryAgent_phase]; exact hp), State.tryAgent,
      State.enables_with_inbox, State.perform_with_inbox]
  · rw [quiet hin hp, tick_of_enables hi ha]
  · rw [quiet hin hp, State.tick_of_no_step hno]

end Sys2Proof.Machine
end

section
/-! The chip lifecycle (44_lifecycle R222 to R228): a pass is one completed write per turn. -/

namespace Sys2Proof.Machine

/-! ### Passes of launches and waits -/

/-- An idle, built bus with an edge to come and this configuration: what a pass finds at each of its turns (log 28). -/
structure Passable (c : Conf) (s : State) : Prop where
  inv : IdleInv s
  built : s.busBuilt = true
  edge : s.edgeAvailable = true
  conf : s.conf = c

theorem ControllerInv.passable {s : State} (hi : ControllerInv s) (hready : s.Ready) (he : s.edgeAvailable = true) :
    Passable s.conf s := ⟨hi.toIdle hready.1, hready.2.2, he, rfl⟩

theorem Passable.settle {c : Conf} {s : State} (h : Passable c s) : Passable c s.settle :=
  ⟨h.inv.settle, by simpa using h.built, by simpa using h.edge, by simpa using h.conf⟩

theorem Passable.with_volCache {c : Conf} {s : State} (h : Passable c s) (v : Vector Byte 4) :
    Passable c { s with volCache := v } := ⟨h.inv.with_volCache v, h.built, h.edge, h.conf⟩

theorem Passable.blockingWrite {c : Conf} {s : State} (h : Passable c s) (a d : Byte) :
    Passable c (blockingWrite a d s) :=
  ⟨(h.inv.blockingWrite_atRest h.built a d).inv, by simpa using h.built, by simpa using h.edge, by simpa using h.conf⟩

/-- A turn of a pass: its launch and its wait run as `turn` says, and the next turn finds the same. -/
def RunsAs (c : Conf) (launch : Task) (turn : State → State) : Prop :=
  ∀ s, Passable c s → (∀ ts, runTasks (launch :: .await .ctrl :: ts) s = runTasks ts (turn s)) ∧ Passable c (turn s)

/-- A pass runs as the fold of its turns. -/
theorem runTasks_turns {α : Type} {c : Conf} {launch : α → Task} {turn : State → α → State} (l : List α)
    (hturn : ∀ x ∈ l, RunsAs c (launch x) fun s => turn s x) {s : State} (h : Passable c s) (ts : List Task) :
    runTasks ((l.flatMap fun x => [launch x, .await .ctrl]) ++ ts) s = runTasks ts (l.foldl turn s) ∧
      Passable c (l.foldl turn s) := by
  induction l generalizing s with
  | nil => exact ⟨rfl, h⟩
  | cons x l ih =>
    obtain ⟨hrun, hpass⟩ := hturn x List.mem_cons_self s h
    obtain ⟨hrest, hlast⟩ := ih (fun y hy => hturn y (List.mem_cons_of_mem x hy)) hpass
    exact ⟨(hrun _).trans hrest, hlast⟩

/-- Without reserved patterns every routable address has an answer (70_reset_and_hazards R302). -/
theorem routeIn_ok {c : Conf} (hc : NoReservedPatterns c) {a : Byte} (ha : a.toNat < 128) :
    ∃ r, routeIn c.region a = .ok r := by
  rcases routeIn_cases c.region a with ⟨h, -⟩ | ⟨-, -, e⟩ | ⟨-, h, -⟩ | ⟨-, -, -, e⟩
  · omega
  · exact ⟨_, e⟩
  · exact absurd ((hc _).symm.trans h) nofun
  · exact ⟨_, e⟩

/-- A turn that launches a WRITE runs as a blocking write from the state it launches it in. -/
theorem runsAs_of_launch {c : Conf} (hc : NoReservedPatterns c) {launch : Task} {turn : State → State}
    (hturn : ∀ s, Passable c s → ∃ a d u, a.toNat < 128 ∧ Passable c u ∧ runTask launch s = launchWrite a d u ∧
      turn s = blockingWrite a d u) : RunsAs c launch turn := fun s h => by
  obtain ⟨a, d, u, ha, hu, hl, ht⟩ := hturn s h
  obtain ⟨r, hr⟩ := routeIn_ok hc ha
  rw [ht]
  exact ⟨runTasks_launch hu.inv hu.built hu.edge (by rw [hu.conf]; exact hr) hl, hu.blockingWrite a d⟩

theorem runsAs_write {c : Conf} (hc : NoReservedPatterns c) {a : Byte} (ha : a.toNat < 128) (d : Byte) :
    RunsAs c (.launchWrite a d) (blockingWrite a d) :=
  runsAs_of_launch hc fun s h => ⟨a, d, s, ha, h, rfl, rfl⟩

/-! ### The mute and the unmute pass -/

/-- The address of a chip's volume register is inside shadow memory. -/
theorem volumeRegister_toNat {i : Nat} (hi : i < 4) : (volumeRegister i).toNat = 0x20 * i + 0x18 := by
  simp only [volumeRegister, BitVec.toNat_ofNat]
  omega

theorem volumeRegister_lt {i : Nat} (hi : i < 4) : (volumeRegister i).toNat < 128 := by
  rw [volumeRegister_toNat hi]
  omega

theorem volCache_set (v : Vector Byte 4) {i : Nat} (hi : i < 4) (x : Byte) : v.set i x hi = v.setIfInBounds i x :=
  Vector.ext fun j hj => by rw [Vector.getElem_set, Vector.getElem_setIfInBounds]

/-- A mute turn captures the shadow byte and launches its muted write (44_lifecycle R222). -/
theorem runTask_launchMute {i : Nat} (hi : i < 4) (s : State) : runTask (.launchMute i) s =
    launchWrite (volumeRegister i) (mutedVolume (s.shadowAt (volumeRegister i)))
      { s with volCache := s.volCache.setIfInBounds i (s.shadowAt (volumeRegister i)) } := by
  rw [runTask, launchMute_eq hi, volCache_set]
  rfl

/-- An unmute turn forces the cached byte and launches its write (44_lifecycle R223). -/
theorem runTask_launchUnmute {i : Nat} (hi : i < 4) (s : State) : runTask (.launchUnmute i) s =
    launchWrite (volumeRegister i) (restoredVolume (s.volCache[i]?.getD 0#8))
      { s with volCache := s.volCache.setIfInBounds i (restoredVolume (s.volCache[i]?.getD 0#8)) } := by
  have hv : unmutedByte s.volCache[i] = restoredVolume (s.volCache[i]?.getD 0#8) := by
    rw [unmutedByte_eq, Vector.getElem?_eq_getElem hi]
    rfl
  rw [runTask, launchUnmute_eq hi, volCache_set, hv]
  rfl

theorem runsAs_mute {c : Conf} (hc : NoReservedPatterns c) {i : Nat} (hi : i < 4) :
    RunsAs c (.launchMute i) fun s => muteTurn s i :=
  runsAs_of_launch hc fun s h =>
    ⟨_, _, _, volumeRegister_lt hi, h.with_volCache _, runTask_launchMute hi s, rfl⟩

theorem runsAs_unmute {c : Conf} (hc : NoReservedPatterns c) {i : Nat} (hi : i < 4) :
    RunsAs c (.launchUnmute i) fun s => unmuteTurn s i :=
  runsAs_of_launch hc fun s h =>
    ⟨_, _, _, volumeRegister_lt hi, h.with_volCache _, runTask_launchUnmute hi s, rfl⟩

/-- The mute pass, run from any state it can run from. -/
theorem runTasks_mutePass {s : State} (h : Passable s.conf s) (hn : s.conf.numChips ≤ 4) (hc : NoReservedPatterns s.conf)
    (ts : List Task) : runTasks (muteTasks s.conf.numChips ++ ts) s = runTasks ts (mutePass s) ∧
      Passable s.conf (mutePass s) :=
  runTasks_turns _ (fun i hi => runsAs_mute hc (by have := List.mem_range.mp hi; omega)) h ts

theorem runTasks_unmutePass {s : State} (h : Passable s.conf s) (hn : s.conf.numChips ≤ 4)
    (hc : NoReservedPatterns s.conf) (ts : List Task) :
    runTasks (unmuteTasks s.conf.numChips ++ ts) s = runTasks ts (unmutePass s) ∧ Passable s.conf (unmutePass s) :=
  runTasks_turns _ (fun i hi => runsAs_unmute hc (by have := List.mem_range.mp hi; omega)) h ts

/-! ### The operations -/

/-- Settles O27. -/
theorem muteCompletes : Obligations.MuteCompletes := by
  intro s hi hready he hn hc
  rw [exec, execMute, accept_built hready, (runTasks_mutePass (hi.passable hready he) hn hc _).1]
  rfl

/-- Settles O28. -/
theorem unmuteCompletes : Obligations.UnmuteCompletes := by
  intro s hi hready he hn hc
  rw [exec, execUnmute, accept_built hready, (runTasks_unmutePass (hi.passable hready he) hn hc _).1]
  rfl

/-- The state from which ENABLE runs its pass: what was in flight has run and the chips' reset is released. -/
def State.released (s : State) : State :=
  { s.settle with pins := { s.settle.pins with res := .deasserted }, trace := s.settle.trace ++ [.resDeassert] }

@[simp] theorem State.released_conf (s : State) : s.released.conf = s.conf := State.settle_conf s

theorem Passable.released {c : Conf} {s : State} (h : Passable c s) : Passable c s.released :=
  ⟨h.settle.inv.congr h.settle.inv.idle rfl h.settle.inv.memory rfl rfl rfl rfl, h.settle.built, h.settle.edge,
    h.settle.conf⟩

/-- Settles O29. -/
theorem enableCompletes : Obligations.EnableCompletes := by
  intro s hi hready he hn hc
  have h := (hi.passable hready he).released
  rw [← State.released_conf] at h hn hc
  rw [exec, execEnable, accept_built hready, (hi.toIdle hready.1).afterHold_eq]
  exact (runTasks_unmutePass h hn hc [.clearPaused, .answer .none]).1

/-- Settles O30. -/
theorem disableCompletes : Obligations.DisableCompletes := by
  intro s hi hready he hn hc
  have h := (hi.passable hready he).settle
  rw [← State.settle_conf] at h hn hc
  rw [exec, execDisable, accept_built hready, (hi.toIdle hready.1).afterHold_eq,
    (runTasks_mutePass h hn hc _).1]
  simp only [runTasks, runTask, State.setRes, State.emit, State.returning, List.append_assoc]
  rfl

/-- What every turn leaves alone, a pass leaves alone. -/
theorem foldl_keeps {α β : Type} {turn : State → α → State} (f : State → β) (h : ∀ s x, f (turn s x) = f s) (l : List α)
    (s : State) : f (l.foldl turn s) = f s := by
  induction l generalizing s with
  | nil => rfl
  | cons x l ih => rw [List.foldl_cons, ih, h]

@[simp] theorem mutePass_paused (s : State) : (mutePass s).paused = s.paused :=
  foldl_keeps State.paused (fun s i => by rw [muteTurn, blockingWrite_paused]) _ s

@[simp] theorem unmutePass_paused (s : State) : (unmutePass s).paused = s.paused :=
  foldl_keeps State.paused (fun s i => by rw [unmuteTurn, blockingWrite_paused]) _ s

/-- The end of PAUSE_TOGGLE, from the state its pass leaves (44_lifecycle R226). -/
theorem runTasks_endOfToggle {c : Conf} {s : State} (h : Passable c s) :
    runTasks [.launchPause, .await .ctrl, .flipPaused, .answer .none] s =
      .next { blockingPause s with paused := !s.paused, result := .none } := by
  have hp : (blockingPause s).paused = s.paused := State.settle_paused s
  rw [runTasks_pause h.inv h.built, ← hp]
  rfl

/-- Settles O31. -/
theorem pauseToggleCompletes : Obligations.PauseToggleCompletes := by
  intro s hi hready he hn hc
  have h := hi.passable hready he
  rw [exec, execPauseToggle, accept_built hready]
  by_cases hp : s.paused = true
  · obtain ⟨hrun, hpass⟩ := runTasks_unmutePass h hn hc [.launchPause, .await .ctrl, .flipPaused, .answer .none]
    rw [if_pos hp, if_pos hp, hrun, runTasks_endOfToggle hpass, unmutePass_paused]
  · obtain ⟨hrun, hpass⟩ := runTasks_mutePass h hn hc [.launchPause, .await .ctrl, .flipPaused, .answer .none]
    rw [if_neg hp, if_neg hp, hrun, runTasks_endOfToggle hpass, mutePass_paused]

/-- Settles O33. -/
theorem clearRegistersCompletes : Obligations.ClearRegistersCompletes := by
  intro c s hi hready he hlt hc
  have haddr : ∀ off : BitVec 5, (registerAddress c.toNat off).toNat < 128 := fun off => by
    have := off.isLt
    simp only [registerAddress, BitVec.toNat_ofNat]
    omega
  rw [exec, execClearRegisters, accept_built hready, if_pos hlt, clearTasks,
    (runTasks_turns (clearableRegisters s.plat) (fun off _ => runsAs_write hc (haddr off) 0x00#8)
      (hi.passable hready he) _).1]
  rfl

end Sys2Proof.Machine
end

section
/-! What the passes and the writes leave in shadow memory and in the volume cache (44_lifecycle R222, R223, R228, R229;
20_memory R95). -/

namespace Sys2Proof.Machine

/-! ### Shadow memory after a blocking write -/

theorem State.shadowAt_settle (s : State) (a : Byte) : s.settle.shadowAt a = s.shadowAt a := by
  rw [State.shadowAt, State.settle_shadow, State.shadowAt]

/-- A blocking write changes its own shadow byte, and that unless its region is disabled (41_dispatcher R181). -/
theorem blockingWrite_shadowAt {s : State} (hm : Memory.wf s.shadow) {b : Byte} {r : Routed}
    (hr : routeIn s.conf.region b = .ok r) (d a : Byte) : (blockingWrite b d s).shadowAt a =
      if a = b ∧ routeIn s.conf.region b ≠ .ok .disabled then d else s.shadowAt a := by
  cases r with
  | disabled => rw [blockingWrite_disabled d hr, State.shadowAt_settle, if_neg fun h => h.2 hr]
  | entry m p =>
    rw [blockingWrite_entry d hr]
    simp only [State.shadowAt, State.settle_shadow]
    by_cases h : a = b
    · subst h
      rw [if_pos ⟨rfl, by rw [hr]; nofun⟩, Memory.read_write_same hm]
    · rw [if_neg fun hab => h hab.1, Memory.read_write_other fun hn => h (BitVec.eq_of_toNat_eq hn)]

/-! ### What a pass over the volume registers leaves -/

/-- The volume register of a chip is the one address of its region with that offset (44_lifecycle R220). -/
theorem eq_volumeRegister_iff {a : Byte} {i : Nat} (hi : i < 4) :
    a = volumeRegister i ↔ a.toNat % 32 = 0x18 ∧ a.toNat / 32 = i := by
  rw [BitVec.toNat_eq, volumeRegister_toNat hi]
  omega

/-- After a pass over the first `n` chips: each cached the byte `c i`, and wrote the byte `w i` unless its region is disabled.
A turn looks at its own chip's shadow byte and cache entry only, and finds them as before the pass. -/
theorem volumeTurns_effect {s : State} {turn : State → Nat → State} {w c : Nat → Byte} (hm : Memory.wf s.shadow)
    (hc : NoReservedPatterns s.conf) {n : Nat} (hn : n ≤ 4)
    (hturn : ∀ i < n, ∀ t : State, t.shadowAt (volumeRegister i) = s.shadowAt (volumeRegister i) →
      t.volCache[i]? = s.volCache[i]? → turn t i =
        blockingWrite (volumeRegister i) (w i) { t with volCache := t.volCache.setIfInBounds i (c i) }) :
    Memory.wf ((List.range n).foldl turn s).shadow ∧ ((List.range n).foldl turn s).conf = s.conf ∧
    (∀ i < 4, ((List.range n).foldl turn s).volCache[i]? = if i < n then some (c i) else s.volCache[i]?) ∧
    ∀ a : Byte, a.toNat < 128 → ((List.range n).foldl turn s).shadowAt a =
      if a.toNat % 32 = 0x18 ∧ a.toNat / 32 < n ∧ routeIn s.conf.region a ≠ .ok .disabled then w (a.toNat / 32)
      else s.shadowAt a := by
  induction n with
  | zero => exact ⟨hm, rfl, fun i _ => rfl, fun a _ => by simp⟩
  | succ n ih =>
    obtain ⟨hmt, hct, hcache, hshadow⟩ := ih (by omega) fun i hi => hturn i (by omega)
    rw [List.range_succ, List.foldl_append, List.foldl_cons, List.foldl_nil]
    generalize (List.range n).foldl turn s = t at hmt hct hcache hshadow
    have hreg := volumeRegister_toNat (i := n) (by omega)
    have hsame : t.shadowAt (volumeRegister n) = s.shadowAt (volumeRegister n) := by
      rw [hshadow _ (by omega), if_neg fun h => by omega]
    have hentry : t.volCache[n]? = s.volCache[n]? := by rw [hcache n (by omega), if_neg (by omega)]
    rw [hturn n (by omega) t hsame hentry]
    obtain ⟨r, hr⟩ := routeIn_ok hc (volumeRegister_lt (i := n) (by omega))
    rw [← hct] at hr
    refine ⟨blockingWrite_memory_wf _ _ hmt, by rw [blockingWrite_conf]; exact hct, fun i hi => ?cache, fun a ha => ?shadow⟩
    case cache =>
      rw [blockingWrite_volCache]
      simp only [Vector.getElem?_setIfInBounds, hcache i hi]
      by_cases h : n = i
      · subst h
        simp [hi]
      · rw [if_neg h]
        exact ite_congr (propext ⟨fun _ => by omega, fun _ => by omega⟩) (fun _ => rfl) fun _ => rfl
    case shadow =>
      rw [blockingWrite_shadowAt (by exact hmt) (by exact hr)]
      rw [hct]
      by_cases hvol : a = volumeRegister n
      · obtain ⟨h24, hdiv⟩ := (eq_volumeRegister_iff (by omega)).mp hvol
        have hat : t.shadowAt a = s.shadowAt a := by rw [hvol, hsame]
        rw [← hvol, hdiv]
        exact ite_congr (propext ⟨fun h => ⟨h24, by omega, h.2⟩, fun h => ⟨rfl, h.2.2⟩⟩) (fun _ => rfl) fun _ => hat
      · have hne := fun h => hvol ((eq_volumeRegister_iff (by omega)).mpr h)
        rw [if_neg fun h => hvol h.1]
        refine (hshadow a ha).trans (ite_congr (propext ⟨fun h => ⟨h.1, by omega, h.2.2⟩, fun h => ⟨h.1, ?_, h.2.2⟩⟩)
          (fun _ => rfl) fun _ => rfl)
        have : a.toNat / 32 ≠ n := fun hdiv => hne ⟨h.1, hdiv⟩
        omega

/-- The mute pass captures each shadow byte and writes it muted. -/
theorem mutePass_effect {s : State} (hm : Memory.wf s.shadow) (hc : NoReservedPatterns s.conf) (hn : s.conf.numChips ≤ 4) :
    Memory.wf (mutePass s).shadow ∧ (mutePass s).conf = s.conf ∧
    (∀ i < 4, (mutePass s).volCache[i]? =
      if i < s.conf.numChips then some (s.shadowAt (volumeRegister i)) else s.volCache[i]?) ∧
    ∀ a : Byte, a.toNat < 128 → (mutePass s).shadowAt a =
      if a.toNat % 32 = 0x18 ∧ a.toNat / 32 < s.conf.numChips ∧ routeIn s.conf.region a ≠ .ok .disabled
      then mutedVolume (s.shadowAt (volumeRegister (a.toNat / 32))) else s.shadowAt a :=
  volumeTurns_effect (turn := muteTurn) (w := fun i => mutedVolume (s.shadowAt (volumeRegister i))) hm hc hn
    fun i _ t ht _ => by rw [muteTurn, ht]

/-- The unmute pass restores each cached byte, in the cache and in shadow memory. -/
theorem unmutePass_effect {s : State} (hm : Memory.wf s.shadow) (hc : NoReservedPatterns s.conf)
    (hn : s.conf.numChips ≤ 4) : Memory.wf (unmutePass s).shadow ∧ (unmutePass s).conf = s.conf ∧
    (∀ i < 4, (unmutePass s).volCache[i]? =
      if i < s.conf.numChips then some (restoredVolume (s.volCache[i]?.getD 0#8)) else s.volCache[i]?) ∧
    ∀ a : Byte, a.toNat < 128 → (unmutePass s).shadowAt a =
      if a.toNat % 32 = 0x18 ∧ a.toNat / 32 < s.conf.numChips ∧ routeIn s.conf.region a ≠ .ok .disabled
      then restoredVolume (s.volCache[a.toNat / 32]?.getD 0#8) else s.shadowAt a :=
  volumeTurns_effect (turn := unmuteTurn) (w := fun i => restoredVolume (s.volCache[i]?.getD 0#8)) hm hc hn
    fun i _ t _ ht => by rw [unmuteTurn, ht]

/-- Settles O35. -/
theorem mutePassEffect : Obligations.MutePassEffect := by
  intro s hi _ hn hc
  obtain ⟨-, -, hcache, hshadow⟩ := mutePass_effect hi.1 hc hn
  refine ⟨hcache, fun a ha => (hshadow a ha).trans (ite_congr rfl (fun h => ?_) fun _ => rfl)⟩
  rw [← (eq_volumeRegister_iff (i := a.toNat / 32) (by omega)).mpr ⟨h.1, rfl⟩]
  rfl

/-- Settles O36. -/
theorem unmutePassEffect : Obligations.UnmutePassEffect := by
  intro s hi _ hn hc
  obtain ⟨-, -, hcache, hshadow⟩ := unmutePass_effect hi.1 hc hn
  constructor
  · intro i v hv
    obtain ⟨hi4, -⟩ := Vector.getElem?_eq_some_iff.mp hv
    rw [hcache i hi4, hv, Option.getD_some]
    by_cases h : i < s.conf.numChips
    · simp only [h, ↓reduceIte, true_and, restoredVolume]
    · simp only [h, ↓reduceIte, false_and]
  · intro a v ha hv
    rw [hshadow a ha, hv, Option.getD_some]
    rfl

/-! ### Toggling twice, and disabling then enabling (44_lifecycle R229) -/

/-- What a pass leaves at the volume register of one active chip, in an enabled region. -/
theorem mutePass_volume {s : State} (hm : Memory.wf s.shadow) (hc : NoReservedPatterns s.conf) (hn : s.conf.numChips ≤ 4)
    {i : Nat} (hi : i < s.conf.numChips) : (mutePass s).volCache[i]? = some (s.shadowAt (volumeRegister i)) ∧
    (routeIn s.conf.region (volumeRegister i) ≠ .ok .disabled →
      (mutePass s).shadowAt (volumeRegister i) = mutedVolume (s.shadowAt (volumeRegister i))) := by
  obtain ⟨-, -, hcache, hshadow⟩ := mutePass_effect hm hc hn
  obtain ⟨h24, hdiv⟩ := (eq_volumeRegister_iff (a := volumeRegister i) (i := i) (by omega)).mp rfl
  refine ⟨by rw [hcache i (by omega), if_pos hi], fun hr => ?_⟩
  rw [hshadow _ (volumeRegister_lt (by omega)), hdiv, if_pos ⟨h24, hi, hr⟩]

theorem unmutePass_volume {s : State} (hm : Memory.wf s.shadow) (hc : NoReservedPatterns s.conf)
    (hn : s.conf.numChips ≤ 4) {i : Nat} (hi : i < s.conf.numChips) {v : Byte} (hv : s.volCache[i]? = some v) :
    (unmutePass s).volCache[i]? = some (restoredVolume v) ∧
    (routeIn s.conf.region (volumeRegister i) ≠ .ok .disabled →
      (unmutePass s).shadowAt (volumeRegister i) = restoredVolume v) := by
  obtain ⟨-, -, hcache, hshadow⟩ := unmutePass_effect hm hc hn
  obtain ⟨h24, hdiv⟩ := (eq_volumeRegister_iff (a := volumeRegister i) (i := i) (by omega)).mp rfl
  refine ⟨by rw [hcache i (by omega), if_pos hi, hv, Option.getD_some], fun hr => ?_⟩
  rw [hshadow _ (volumeRegister_lt (by omega)), hdiv, if_pos ⟨h24, hi, hr⟩, hv, Option.getD_some]

/-- Restoring a byte does not change its high nibble. -/
theorem mutedVolume_restoredVolume : ∀ v : Byte, mutedVolume (restoredVolume v) = v &&& 0xF0#8 := by decide

/-- PAUSE_TOGGLE keeps what its next call needs, and its answer holds what its pass leaves. -/
theorem pauseToggle_next {s : State} (hi : ControllerInv s) (hready : s.Ready) (he : s.edgeAvailable = true)
    (hn : s.conf.numChips ≤ 4) (hc : NoReservedPatterns s.conf) :
    ∃ t, exec .pauseToggle s = .next t ∧ ControllerInv t ∧ t.Ready ∧ t.edgeAvailable = true ∧ t.conf = s.conf ∧
      t.paused = !s.paused ∧ t.volCache = (if s.paused then unmutePass s else mutePass s).volCache ∧
      ∀ a, t.shadowAt a = (if s.paused then unmutePass s else mutePass s).shadowAt a := by
  have h := hi.passable hready he
  have hpass : Passable s.conf (if s.paused then unmutePass s else mutePass s) := by
    split
    · exact (runTasks_unmutePass h hn hc []).2
    · exact (runTasks_mutePass h hn hc []).2
  have e := pauseToggleCompletes s hi hready he hn hc
  have hset := hpass.settle
  refine ⟨_, e, exec_keeps_inv hi e, ⟨hset.inv.idle, hset.inv.live, hset.built⟩, hset.edge, hset.conf, rfl,
    State.settle_volCache _, fun a => State.shadowAt_settle _ a⟩

/-- Settles O37: the cache the first pass leaves is the one the second reads. -/
theorem pauseToggleTwiceRestores : Obligations.PauseToggleTwiceRestores := by
  intro s hi hready he hn hc hregions
  obtain ⟨t, e1, hit, hrt, het, hct, hpt, hvt, hst⟩ := pauseToggle_next hi hready he hn hc
  obtain ⟨u, e2, -, -, -, -, hpu, hvu, hsu⟩ := pauseToggle_next hit hrt het (by rwa [hct]) (by rwa [hct])
  have hcache : ∀ i : Nat, t.volCache[i]? = (if s.paused then unmutePass s else mutePass s).volCache[i]? := fun i => by
    rw [hvt]
  refine ⟨t, u, e1, e2, hpt, by rw [hpu, hpt, Bool.not_not], fun hp i v hlt hv => ?_, fun hp i v hlt hv => ?_⟩
  · obtain ⟨hc1, -⟩ := mutePass_volume hi.1 hc hn hlt
    obtain ⟨hc2, hs2⟩ := unmutePass_volume (s := t) hit.1 (by rwa [hct]) (by rwa [hct]) (by rwa [hct])
      (v := v) (by rw [hcache, hp, ← hv]; exact hc1)
    have hpt' : t.paused = true := by rw [hpt, hp]; rfl
    rw [hpt'] at hvu hsu
    rw [hvu, hsu]
    exact ⟨hc2, hs2 (by rw [hct]; exact hregions i hlt)⟩
  · obtain ⟨hc1, hs1⟩ := unmutePass_volume hi.1 hc hn hlt hv
    obtain ⟨hc2, hs2⟩ := mutePass_volume (s := t) hit.1 (by rwa [hct]) (by rwa [hct]) (i := i) (by rwa [hct])
    have hpt' : t.paused = false := by rw [hpt, hp]; rfl
    have hshadow : t.shadowAt (volumeRegister i) = restoredVolume v := by
      rw [hst, hp]
      exact hs1 (hregions i hlt)
    rw [hpt'] at hvu hsu
    rw [hshadow] at hc2 hs2
    rw [hvu, hsu, ← mutedVolume_restoredVolume]
    exact ⟨hc2, hs2 (by rw [hct]; exact hregions i hlt)⟩

/-- No agent drives the reset line (10_state R44). -/
@[simp] theorem State.settle_res (s : State) : s.settle.pins.res = s.pins.res := by
  have hkeep : AgentsKeep fun t => t.pins.res = s.pins.res := fun t a ht _ => by
    cases a <;> simp only [State.perform] <;> split <;> exact ht
  exact hkeep.settle rfl

@[simp] theorem blockingWrite_res (a d : Byte) (s : State) : (blockingWrite a d s).pins.res = s.pins.res := by
  rw [← State.settle_res s]
  unfold blockingWrite
  split <;> rfl

@[simp] theorem unmutePass_res (s : State) : (unmutePass s).pins.res = s.pins.res :=
  foldl_keeps (fun s => s.pins.res) (fun s i => by rw [unmuteTurn, blockingWrite_res]) _ s

/-- Settles O38: DISABLE leaves the volumes in the cache and the reset asserted, and ENABLE undoes both. -/
theorem disableEnableRestoresVolume : Obligations.DisableEnableRestoresVolume := by
  intro s hi hready he hn hc
  have h := (hi.passable hready he).settle
  rw [← State.settle_conf] at h
  have hnSettle : s.settle.conf.numChips ≤ 4 := by rwa [State.settle_conf]
  have hcSettle : NoReservedPatterns s.settle.conf := by rwa [State.settle_conf]
  have hpass := (runTasks_mutePass h hnSettle hcSettle []).2
  obtain ⟨t, e1, ht⟩ : ∃ t, exec .disable s = .next t ∧ t = _ := ⟨_, disableCompletes s hi hready he hn hc, rfl⟩
  have hct : t.conf = s.conf := by
    rw [ht]
    exact hpass.conf.trans (State.settle_conf s)
  have hit := exec_keeps_inv hi e1
  have hrt : t.Ready := by
    rw [ht]
    exact ⟨hpass.inv.idle, hpass.inv.live, hpass.built⟩
  have het : t.edgeAvailable = true := by
    rw [ht]
    exact hpass.edge
  have e2 := enableCompletes t hit hrt het (by rwa [hct]) (by rwa [hct])
  refine ⟨t, _, e1, e2, by rw [ht]; rfl, ?_, rfl, fun i v hlt hv hr => ?_⟩
  · rw [State.lifecycle, if_neg, if_neg nofun]
    rw [unmutePass_res]
    nofun
  · obtain ⟨hc1, hs1⟩ := mutePass_volume (s := s.settle) h.inv.memory hcSettle hnSettle (i := i)
      (by rwa [State.settle_conf])
    rw [State.shadowAt_settle, hv] at hc1 hs1
    have hcache : t.volCache[i]? = some v := by
      rw [ht]
      exact hc1
    obtain ⟨-, hs2⟩ := unmutePass_volume (s := t.released) (by rw [State.released, State.settle_shadow]; exact hit.1)
      (by rwa [State.released_conf, hct]) (by rwa [State.released_conf, hct]) (i := i)
      (by rwa [State.released_conf, hct]) (v := v) (by rw [State.released, State.settle_volCache]; exact hcache)
    refine ⟨hcache, ?_, hs2 (by rwa [State.released_conf, hct])⟩
    rw [ht]
    exact hs1 (by rwa [State.settle_conf])

/-! ### A stuck PAUSE_TOGGLE -/

/-- Settles O39: the first mute turn has captured its byte and written its shadow byte when its wait begins. -/
theorem stuckPauseToggleDoesNotFlip : Obligations.StuckPauseToggleDoesNotFlip := by
  rintro s hi hready he hp hn ⟨m, p, hr⟩
  obtain ⟨n, hnum⟩ := Nat.exists_eq_add_of_le' hn
  have hinv := (hi.toIdle hready.1).with_volCache (s.volCache.setIfInBounds 0 (s.shadowAt 0x18#8))
  have hrun := runTasks_launch_stuck hinv (by exact hready.2.2) (by exact he) (by exact hr)
    (runTask_launchMute (i := 0) (by omega) s)
  have hsettle := State.settle_with_volCache s (s.volCache.setIfInBounds 0 (s.shadowAt 0x18#8))
  rw [exec, execPauseToggle, accept_built hready, hp, if_neg nofun, hnum, muteTasks, List.range_succ_eq_map]
  refine ⟨_, hrun _, rfl, ?_, ?_, ?_, ?_⟩
  · exact (State.settle_paused _).trans hp
  · exact (congrArg (·[0]?) (State.settle_volCache _)).trans (by simp)
  · exact (Memory.read_write_same hinv.settle.memory).trans rfl
  · have htrace := congrArg State.trace hsettle
    exact htrace

/-! ### CLEAR_REGISTERS under the default table -/

/-- The first `k` writes of CLEAR_REGISTERS under the default table (44_lifecycle R228). -/
def clearedRegisters (c k : Nat) (s : State) : State :=
  ((List.range k).map (BitVec.ofNat 5)).foldl (fun t off => blockingWrite (BitVec.ofNat 8 (0x20 * c + off.toNat)) 0x00#8 t) s

theorem clearedRegisters_succ {c k : Nat} (hk : k < 32) (s : State) : clearedRegisters c (k + 1) s =
    blockingWrite (BitVec.ofNat 8 (0x20 * c + k)) 0x00#8 (clearedRegisters c k s) := by
  rw [clearedRegisters, List.range_succ, List.map_append, List.foldl_append]
  simp only [List.map_cons, List.map_nil, List.foldl_cons, List.foldl_nil, BitVec.toNat_ofNat, Nat.reducePow,
    Nat.mod_eq_of_lt hk]
  rfl

/-- A register address routes to the entry of its chip's region. -/
theorem routeIn_register {table : Vector Region 4} {c k : Nat} {r : Region} (hc : c < 4) (hk : k < 32)
    (hr : table[c]? = some r) (hd : patternDisabled r.pattern = false) (hn : patternReserved r.pattern = false) :
    routeIn table (BitVec.ofNat 8 (0x20 * c + k)) =
      .ok (.entry ((BitVec.ofNat 8 (0x20 * c + k) &&& r.mask).extractLsb' 0 6) r.pattern) := by
  have ha : (BitVec.ofNat 8 (0x20 * c + k)).toNat = 0x20 * c + k := by
    rw [BitVec.toNat_ofNat]
    omega
  have hindex : (regionIndex (BitVec.ofNat 8 (0x20 * c + k))).val = c := by
    rw [regionIndex_eq (by omega), ha]
    omega
  have hregion : table[regionIndex (BitVec.ofNat 8 (0x20 * c + k))] = r := by
    obtain ⟨_, e⟩ := Vector.getElem?_eq_some_iff.mp hr
    rw [← e, Fin.getElem_fin]
    simp only [hindex]
  rw [routeIn_of_lt (by omega) hregion, hd, hn]
  rfl

/-- After `k` writes: `k` shadow bytes are zero, and what was in flight and `k` gated writes are in the trace. -/
theorem clearedRegisters_effect {s : State} (h : IdleInv s) (hb : s.busBuilt = true) {c : Nat} (hc : c < 4) {r : Region}
    (hr : s.conf.region[c]? = some r) (hd : patternDisabled r.pattern = false) (hn : patternReserved r.pattern = false)
    {k : Nat} (hk : k ≤ 32) : IdleInv (clearedRegisters c k s) ∧ (clearedRegisters c k s).busBuilt = true ∧
      (clearedRegisters c k s).conf = s.conf ∧ (clearedRegisters c k s).volCache = s.volCache ∧
      (∀ a : Byte, a.toNat < 0x80 → (clearedRegisters c k s).shadowAt a =
        if 0x20 * c ≤ a.toNat ∧ a.toNat < 0x20 * c + k then 0x00#8 else s.shadowAt a) ∧
      (clearedRegisters c k s).settle.trace = s.settle.trace ++ (List.range k).map fun j =>
        .busWrite r.pattern ((BitVec.ofNat 8 (0x20 * c + j) &&& r.mask).extractLsb' 0 6) 0x00#8 .gated := by
  induction k with
  | zero => exact ⟨h, hb, rfl, rfl, fun a _ => by rw [if_neg (by omega)]; rfl, by simp [clearedRegisters]⟩
  | succ k ih =>
    obtain ⟨hi, hbk, hck, hvk, hsk, htk⟩ := ih (by omega)
    rw [clearedRegisters_succ (by omega)]
    generalize clearedRegisters c k s = t at hi hbk hck hvk hsk htk
    have hroute := routeIn_register hc (by omega) hr hd hn (k := k)
    rw [← hck] at hroute
    have hrest := hi.blockingWrite_atRest hbk (BitVec.ofNat 8 (0x20 * c + k)) 0x00#8
    refine ⟨hrest.inv, hrest.built, by rw [blockingWrite_conf, hck], by rw [blockingWrite_volCache, hvk],
      fun a ha => ?_, ?_⟩
    · rw [blockingWrite_shadowAt hi.memory hroute, hroute, hsk a ha]
      have hiff : a = BitVec.ofNat 8 (0x20 * c + k) ↔ a.toNat = 0x20 * c + k := by
        rw [BitVec.toNat_eq, BitVec.toNat_ofNat]
        omega
      by_cases heq : a.toNat = 0x20 * c + k
      · rw [if_pos ⟨hiff.mpr heq, nofun⟩, if_pos (by omega)]
      · rw [if_neg fun hab => heq (hiff.mp hab.1)]
        exact ite_congr (propext ⟨fun _ => by omega, fun _ => by omega⟩) (fun _ => rfl) fun _ => rfl
    · rw [hrest.settle_eq, blockingWrite_entry _ hroute, List.range_succ, List.map_append, ← List.append_assoc, ← htk]
      rfl

/-- Settles O34: 25 writes, the last of which leaves nothing in flight. -/
theorem clearRegistersZeroesShadow : Obligations.ClearRegistersZeroesShadow := by
  intro c s t r hi hready he hlt hc htable hr h6 h7 hexec
  have hreserved : patternReserved r.pattern = false := by
    obtain ⟨hlt', e⟩ := Vector.getElem?_eq_some_iff.mp hr
    rw [← e]
    exact hc ⟨c.toNat, hlt'⟩
  have hdisabled : patternDisabled r.pattern = false := by simp [patternDisabled, h6, h7]
  have hinv := hi.toIdle hready.1
  have hdefault : s.plat.regTable.take (s.plat.regTable.length - 4) = (List.range 25).map (BitVec.ofNat 5) := by
    rw [htable]
    rfl
  have hanswer : exec (.clearRegisters c) s = .next ((clearedRegisters c.toNat 25 s).returning .none) := by
    rw [clearRegistersCompletes c s hi hready he hlt hc, hdefault]
    rfl
  obtain ⟨-, -, -, hv, hs, ht⟩ := clearedRegisters_effect hinv hready.2.2 hlt hr hdisabled hreserved (k := 25) (by omega)
  have hrest : AtRest (clearedRegisters c.toNat 25 s) := by
    obtain ⟨hi24, hb24, -⟩ := clearedRegisters_effect hinv hready.2.2 hlt hr hdisabled hreserved (k := 24) (by omega)
    rw [clearedRegisters_succ (by omega)]
    exact hi24.blockingWrite_atRest hb24 _ _
  rw [hrest.settle_eq] at ht
  generalize clearedRegisters c.toNat 25 s = u at hanswer hv hs ht
  rw [hanswer] at hexec
  cases hexec
  exact ⟨fun a ha => (hs a ha).trans (ite_congr (propext ⟨fun _ => by omega, fun _ => by omega⟩) (fun _ => rfl) fun _ => rfl),
    hv, ht⟩

/-! ### Reading back what was written (20_memory R95) -/

/-- A matching write at the end of a trace is the latest. -/
theorem latestWrite_append {sel sel' : Select} {a6 : BusAddr} (h : sameSockets sel sel' = true) (d : Byte) (g : Gating)
    (l : List Event) : latestWrite sel a6 (l ++ [.busWrite sel' a6 d g]) = some d := by
  induction l with
  | nil => simp [latestWrite, h]
  | cons e l ih => simp only [List.cons_append, latestWrite, ih]

/-- The read bit selects no socket (20_memory R70). -/
theorem sameSockets_read : ∀ p : Select, sameSockets (p ||| 0b001#3) p = true := by decide

/-- Settles O23. -/
theorem readBackRoundTrip : Obligations.ReadBackRoundTrip := by
  intro a v s m p hi hready he hr
  obtain ⟨e1, hwrite⟩ := writeCompletes a v s m p hi hready he hr
  have hrest := (hi.toIdle hready.1).blockingWrite_atRest hready.2.2 a v
  have hmem := hrest.inv.memory
  obtain ⟨t, e1, ht⟩ : ∃ t, exec (.write a v) s = .next t ∧ t = (blockingWrite a v s).returning (.byte 0x00#8) :=
    ⟨_, e1, rfl⟩
  have hsettle : t.settle = t := by rw [ht, State.settle_returning, hrest.settle_eq]
  have hct : t.conf = s.conf := by rw [ht]; exact blockingWrite_conf a v s
  obtain ⟨low, e2⟩ := readCompletes a 0x00#8 t m p (exec_keeps_inv hi e1)
    (by rw [ht]; exact ⟨hrest.inv.idle, hrest.inv.live, hrest.built⟩)
    (by rw [ht]; exact (blockingWrite_edgeAvailable a v s).trans he) (by rwa [hct])
  rw [hsettle] at e2
  refine ⟨t, _, _, e1, ?_, e2, rfl, Memory.read_write_same (by rw [ht]; exact hmem), fun hreads => hreads v ?_⟩
  · rw [ht]
    refine (blockingWrite_shadowAt hi.1 hr v a).trans (if_pos ⟨rfl, by rw [hr]; nofun⟩)
  · rw [ht, hwrite]
    exact latestWrite_append (sameSockets_read p) v .gated _

end Sys2Proof.Machine
end

section
/-! What an operation leaves alone (10_state R27 to R43, 20_memory R76, R89, R94): the parts of the state it can write, listed
once, and that a property of all other parts goes through it. -/

namespace Sys2Proof.Machine

/-! ### The parts of the state -/

/-- The parts of the state that some operations write and others leave alone. -/
inductive Part where
  | shadow | volCache | paused | pins | delayWord | clock | build | sync

/-- A property that survives whatever is written into this part. -/
def Part.Keeps (P : State → Prop) : Part → Prop
  | .shadow => ∀ s m, P s → P { s with shadow := m }
  | .volCache => ∀ s v, P s → P { s with volCache := v }
  | .paused => ∀ s b, P s → P { s with paused := b }
  | .pins => ∀ s p, P s → P { s with pins := p }
  | .delayWord => ∀ s n, P s → P { s with cells := { s.cells with dlw := n } }
  | .clock => ∀ s b, P s → P { s.samplesTaken with clkExternal := b }
  | .build => (∀ s b c q a bu n, P s → P { s with
      divBus := b, divClk := c, seqs := q, phaseAligned := a, busBuilt := bu, draws := n }) ∧
      ∀ s, P s → P { s with halted := true }
  | .sync => ∀ s q, P s → P { s with seqs := q, phaseAligned := true }

/-- A property that survives what every operation may do: agents move, the phase, the answer, the rest of the operation, the
link and the two words change, events are added, the chip selects are released. -/
structure Plumbing (P : State → Prop) : Prop where
  agents : AgentsKeep P
  phase : ∀ s p, P s → P { s with phase := p }
  todo : ∀ s l, P s → P { s with todo := l }
  result : ∀ s r, P s → P { s with result := r }
  event : ∀ s l, P s → P { s with trace := s.trace ++ l }
  link : ∀ s l, P s → P { s with link := l }
  words : ∀ s cw dw, P s → P { s with cells := { s.cells with cw := cw, dw := dw } }
  selects : ∀ s, P s → P { s with pins := { s.pins with cs1 := true, cs2 := true } }

/-- The parts a task writes. -/
def Task.writes : Task → List Part
  | .launchWrite _ _ | .latchRead _ => [.shadow]
  | .launchMute _ | .launchUnmute _ => [.volCache, .shadow]
  | .assertRes => [.pins]
  | .clearPaused | .flipPaused => [.paused]
  | .launchPause | .await _ | .releaseSelects | .answer _ => []

/-- The parts an operation writes (10_state R27, R30, R35 to R43). -/
def instrWrites : Instr → List Part
  | .write _ _ | .read _ _ | .clearRegisters _ => [.shadow]
  | .cycledDispatch _ _ _ => [.shadow, .delayWord]
  | .mute | .unmute => [.volCache, .shadow]
  | .enable => [.volCache, .shadow, .pins, .paused]
  | .disable => [.volCache, .shadow, .pins]
  | .pauseToggle => [.volCache, .shadow, .paused]
  | .hardReset | .initPins => [.pins]
  | .setupBus => [.build]
  | .rebuildBus => [.build, .sync]
  | .detectExternalClock => [.clock]
  | .phaseSync => [.sync]
  | .pause _ _ | .clearBus _ _ | .computeClockDivider _ | .route _ => []

/-! ### Tasks -/

section
variable {P : State → Prop} (hP : Plumbing P)
include hP

theorem Plumbing.settle {s : State} (h : P s) : P s.settle := hP.agents.settle h
theorem Plumbing.returning {s : State} (h : P s) (r : Result) : P (s.returning r) := hP.result s r h
theorem Plumbing.emit {s : State} (h : P s) (e : Event) : P (s.emit e) := hP.event s [e] h
theorem Plumbing.setWords {s : State} (h : P s) (cw : ControlWord) (dw : DataWord) : P (s.setWords cw dw) :=
  hP.words s cw dw h
theorem Plumbing.armGates {s : State} (h : P s) : P s.armGates := hP.link s _ h
theorem Plumbing.triggerCtrl {s : State} (h : P s) : P s.triggerCtrl := hP.link s _ h
theorem Plumbing.triggerData {s : State} (h : P s) : P s.triggerData := hP.link s _ h
theorem Plumbing.triggerDelay {s : State} (h : P s) : P s.triggerDelay := hP.link s _ h
theorem Plumbing.triggerReceive {s : State} (h : P s) : P s.triggerReceive := hP.link s _ h
theorem Plumbing.triggerBoth {s : State} (h : P s) : P s.triggerBoth := hP.triggerCtrl (hP.triggerData h)
theorem Plumbing.loadPause {s : State} (h : P s) : P s.loadPause := hP.triggerCtrl (hP.words s cwPause s.cells.dw h)
theorem Plumbing.loadClear {s : State} (h : P s) : P s.loadClear := hP.triggerData (hP.words s s.cells.cw dwClear h)
theorem Plumbing.loadRead {s : State} (h : P s) (m : BusAddr) (p : Select) (d : Byte) : P (s.loadRead m p d) :=
  hP.triggerReceive (hP.triggerBoth (hP.armGates (hP.setWords h _ _)))
theorem Plumbing.loadCycled {s : State} (h : P s) (m : BusAddr) (p : Select) (d : Byte) : P (s.loadCycled m p d) :=
  hP.triggerBoth (hP.setWords h _ _)

omit hP in
theorem Part.Keeps.setShadow (hs : Part.shadow.Keeps P) {s : State} (h : P s) (a v : Byte) : P (s.setShadow a v) :=
  hs s _ h

theorem Plumbing.loadWrite (hs : Part.shadow.Keeps P) {s : State} (h : P s) (m : BusAddr) (p : Select) (a d : Byte) :
    P (s.loadWrite m p a d) :=
  hP.triggerBoth (hP.armGates (hs.setShadow (hP.setWords h _ _) a d))

theorem Plumbing.loadDelay (hd : Part.delayWord.Keeps P) {s : State} (h : P s) (n : DelayWord) : P (s.loadDelay n) :=
  hP.triggerDelay (hd s n h)

theorem Plumbing.after_hold {s u : State} (h : P s) (hu : hold s = some u) : P u := by
  unfold hold at hu
  split at hu
  · cases hu
  · cases hu
    exact hP.settle h

theorem Plumbing.after_launchWrite (hs : Part.shadow.Keeps P) {s u : State} {a d : Byte} (h : P s)
    (hu : launchWrite a d s = .done u) : P u := by
  unfold launchWrite at hu
  split at hu
  · cases hu
  · next v hv =>
    have hPv := hP.after_hold h hv
    split at hu <;> cases hu
    · exact hPv
    · exact hP.loadWrite hs hPv _ _ _ _

theorem Plumbing.after_await {s u : State} {w : WaitPoint} (h : P s) (hu : await w s = .done u ∨ await w s = .blocked u) :
    P u := by
  have hset := hP.settle (hP.phase s w.phase h)
  simp only [await] at hu
  split at hu <;> rcases hu with hu | hu <;> cases hu
  · exact hset
  · exact hP.phase _ _ hset

omit hP in
/-- A launch of a WRITE never blocks. -/
theorem launchWrite_done {a d : Byte} {s u : State}
    (hu : launchWrite a d s = .done u ∨ launchWrite a d s = .blocked u) : launchWrite a d s = .done u := by
  refine hu.resolve_right fun hb => ?_
  unfold launchWrite at hb
  split at hb
  · cases hb
  · split at hb <;> cases hb

/-- A task keeps what its parts keep, whether it is done or blocks. -/
theorem Plumbing.after_task {t : Task} (hw : ∀ w ∈ t.writes, w.Keeps P) {s u : State} (h : P s)
    (hu : runTask t s = .done u ∨ runTask t s = .blocked u) : P u := by
  cases t with
  | launchWrite a d => exact hP.after_launchWrite (hw .shadow (by simp [Task.writes])) h (launchWrite_done hu)
  | launchPause =>
    simp only [runTask, launchPause] at hu
    split at hu <;> rcases hu with hu | hu <;> cases hu
    exact hP.loadPause (hP.after_hold h (by assumption))
  | launchMute chip =>
    have hv := hw .volCache (by simp [Task.writes])
    by_cases hc : chip < 4
    · rw [runTask, launchMute_eq hc] at hu
      exact hP.after_launchWrite (hw .shadow (by simp [Task.writes])) (hv s _ h) (launchWrite_done hu)
    · simp [runTask, launchMute, hc] at hu
  | launchUnmute chip =>
    have hv := hw .volCache (by simp [Task.writes])
    by_cases hc : chip < 4
    · rw [runTask, launchUnmute_eq hc] at hu
      exact hP.after_launchWrite (hw .shadow (by simp [Task.writes])) (hv s _ h) (launchWrite_done hu)
    · simp [runTask, launchUnmute, hc] at hu
  | await w => exact hP.after_await h hu
  | latchRead a =>
    rcases hu with hu | hu <;> cases hu
    exact hP.returning (Part.Keeps.setShadow (hw .shadow (by simp [Task.writes])) h _ _) _
  | releaseSelects =>
    rcases hu with hu | hu <;> cases hu
    exact hP.emit (hP.selects s h) _
  | assertRes =>
    rcases hu with hu | hu <;> cases hu
    exact hP.emit (hw .pins (by simp [Task.writes]) s _ h) _
  | clearPaused =>
    rcases hu with hu | hu <;> cases hu
    exact hw .paused (by simp [Task.writes]) s _ h
  | flipPaused =>
    rcases hu with hu | hu <;> cases hu
    exact hw .paused (by simp [Task.writes]) s _ h
  | answer r =>
    rcases hu with hu | hu <;> cases hu
    exact hP.returning h r

theorem Plumbing.after_tasks {ts : List Task} (hw : ∀ t ∈ ts, ∀ w ∈ t.writes, w.Keeps P) {s u : State} (h : P s)
    (hu : runTasks ts s = .next u) : P u := by
  induction ts generalizing s with
  | nil => cases hu; exact h
  | cons t ts ih =>
    have ht := fun v => hP.after_task (hw t List.mem_cons_self) (s := s) (u := v) h
    simp only [runTasks] at hu
    split at hu
    · next v hv => exact ih (fun t ht => hw t (List.mem_cons_of_mem _ ht)) (ht v (.inl hv)) hu
    · next v hv => cases hu; exact hP.todo _ _ (ht v (.inr hv))
    · cases hu
    · cases hu

/-! ### Operations -/

theorem Plumbing.after_afterHold {s t : State} {body : State → Answer} (h : P s)
    (hb : ∀ u, P u → body u = .next t → P t) (ht : afterHold s body = .next t) : P t := by
  obtain ⟨-, e⟩ | ⟨-, e⟩ := afterHold_cases s body <;> rw [e] at ht
  · cases ht
  · exact hb _ (hP.settle h) ht

theorem Plumbing.after_buildBus (hb : Part.build.Keeps P) {s t : State} (h : P s) (ht : buildBus s = .next t) : P t := by
  obtain ⟨hset, hfatal⟩ := hb
  obtain ⟨-, e⟩ | ⟨divBus, divClk, -, ⟨-, e⟩ | ⟨-, -, e⟩ | ⟨-, -, e⟩⟩ := buildBus_cases s <;> rw [e] at ht <;> cases ht
  · exact hP.emit (hP.phase _ _ (hfatal _ (hset s divBus divClk s.seqs s.phaseAligned s.busBuilt s.draws h))) _
  · exact hP.emit (hP.phase _ _ (hfatal _ (hset s divBus divClk _ s.phaseAligned s.busBuilt (s.draws + 1) h))) _
  · exact hP.emit (hP.link _ _ (hset s divBus divClk _ false true (s.draws + 1) h)) _

theorem Plumbing.syncPhases (hs : Part.sync.Keeps P) {s : State} (h : P s) : P s.syncPhases := by
  unfold State.syncPhases
  split
  · exact hP.emit (hs s s.seqs h) _
  · exact hP.emit (hs s _ h) _

theorem Plumbing.resetPulse (hp : Part.pins.Keeps P) {s : State} (h : P s) : P s.resetPulse := by
  have hassert : P ((s.setRes .asserted).emit .resAssert) := hP.emit (hp s _ h) _
  have hhold : P ((s.setRes .asserted).emit .resAssert).holdReset := by
    unfold State.holdReset
    split
    · exact hP.emit hassert _
    · exact hassert
  exact hP.emit (hp _ _ hhold) _

omit hP in
/-- A rebuild that answers is the bring-up after the teardown, and then the phase-sync unless bring-up was fatal. -/
theorem exec_rebuildBus_next {s t : State} (ht : exec .rebuildBus s = .next t) :
    ∃ v, buildBus s.teardown = .next v ∧ t = v.afterRebuild.returning .none := by
  have hbody := (accept_next ((execRebuildBus.eq_1 s).symm.trans ht)).2.2
  cases hbuild : buildBus s.teardown with
  | next v => rw [hbuild] at hbody; cases hbody; exact ⟨v, rfl, rfl⟩
  | fault f => rw [hbuild] at hbody; cases hbody
  | refused r => rw [hbuild] at hbody; cases hbody

theorem Plumbing.teardown (hb : Part.build.Keeps P) {s : State} (h : P s) : P s.teardown :=
  hP.emit (hP.link _ Link.atReset (hb.1 s s.divBus s.divClk _ false false s.draws h)) _

theorem Plumbing.after_rebuild (hb : Part.build.Keeps P) (hs : Part.sync.Keeps P) {s v : State} (h : P s.teardown)
    (hv : buildBus s.teardown = .next v) : P (v.afterRebuild.returning .none) := by
  have hPv := hP.after_buildBus hb h hv
  refine hP.returning ?_ _
  unfold State.afterRebuild
  split
  · exact hPv
  · exact hP.syncPhases hs hPv

theorem Plumbing.after_cycledWritePart (hs : Part.shadow.Keeps P) {s t : State} {a d : Byte} (h : P s)
    (ht : cycledWritePart a d s = .next t) : P t := by
  unfold cycledWritePart at ht
  split at ht
  · cases ht
  · cases ht
    split
    · exact hP.returning (hs.setShadow h a d) _
    · exact hP.returning h _
  · cases ht
    exact hP.returning (hP.loadCycled (hs.setShadow h a d) _ _ _) _

omit hP in
/-- The parts that the mute pass writes. -/
theorem mem_writes_muteTasks {n : Nat} {t : Task} (ht : t ∈ muteTasks n) {w : Part} (hw : w ∈ t.writes) :
    w = .volCache ∨ w = .shadow := by
  simp only [muteTasks, List.mem_flatMap, List.mem_cons, List.not_mem_nil, or_false] at ht
  obtain ⟨i, -, rfl | rfl⟩ := ht <;> simp_all [Task.writes]

omit hP in
theorem mem_writes_unmuteTasks {n : Nat} {t : Task} (ht : t ∈ unmuteTasks n) {w : Part} (hw : w ∈ t.writes) :
    w = .volCache ∨ w = .shadow := by
  simp only [unmuteTasks, List.mem_flatMap, List.mem_cons, List.not_mem_nil, or_false] at ht
  obtain ⟨i, -, rfl | rfl⟩ := ht <;> simp_all [Task.writes]

omit hP in
theorem mem_writes_clearTasks {c : Nat} {l : List (BitVec 5)} {t : Task} (ht : t ∈ clearTasks c l) {w : Part}
    (hw : w ∈ t.writes) : w = .shadow := by
  simp only [clearTasks, List.mem_flatMap, List.mem_cons, List.not_mem_nil, or_false] at ht
  obtain ⟨off, -, rfl | rfl⟩ := ht <;> simp_all [Task.writes]

/-- A pass keeps what the cache and shadow memory keep, and its end what its own tasks keep. -/
theorem Plumbing.after_pass {pass : List Task}
    (hpass : ∀ t ∈ pass, ∀ w ∈ t.writes, w = Part.volCache ∨ w = Part.shadow) {rest : List Task}
    (hv : Part.volCache.Keeps P) (hs : Part.shadow.Keeps P) (hrest : ∀ t ∈ rest, ∀ w ∈ t.writes, w.Keeps P) {s u : State}
    (h : P s) (hu : runTasks (pass ++ rest) s = .next u) : P u := by
  refine hP.after_tasks (fun t ht w hw => ?_) h hu
  rcases List.mem_append.mp ht with ht | ht
  · rcases hpass t ht w hw with rfl | rfl
    · exact hv
    · exact hs
  · exact hrest t ht w hw

/-- An operation keeps what the parts it writes keep, completed or stuck. -/
theorem Plumbing.after_exec {i : Instr} (hw : ∀ w ∈ instrWrites i, w.Keeps P) {s t : State} (h : P s)
    (ht : exec i s = .next t) : P t := by
  cases i with
  | write a d =>
    refine hP.after_tasks ?_ h (accept_next ht).2.2
    simpa [Task.writes] using hw .shadow List.mem_cons_self
  | read a d =>
    have hs := hw .shadow List.mem_cons_self
    refine hP.after_afterHold h (fun u hu hb => ?_) (accept_next ((execRead.eq_1 a d s).symm.trans ht)).2.2
    split at hb
    · cases hb
    · cases hb; exact hP.returning hu _
    · exact hP.after_tasks (by simpa [Task.writes] using hs) (hP.loadRead hu _ _ _) hb
  | pause a d => exact hP.after_tasks (by simp [Task.writes]) h (accept_next ht).2.2
  | clearBus a d =>
    refine hP.after_afterHold h (fun u hu hb => ?_) (accept_next ((execClearBus.eq_1 a d s).symm.trans ht)).2.2
    cases hb
    exact hP.returning (hP.loadClear hu) _
  | cycledDispatch a d n =>
    have hs := hw .shadow List.mem_cons_self
    have hd := hw .delayWord (by simp [instrWrites])
    have hbody := (accept_next ((execCycledDispatch.eq_1 a d n s).symm.trans ht)).2.2
    split at hbody
    · refine hP.after_afterHold h (fun u hu hb => ?_) hbody
      split at hb
      · exact hP.after_tasks (by simp [Task.writes]) (hP.loadDelay hd hu n) hb
      · split at hb
        · exact hP.after_cycledWritePart hs (hP.loadDelay hd hu n) hb
        · exact hP.after_cycledWritePart hs hu hb
    · cases hbody
  | enable =>
    have hp := hw .pins (by simp [instrWrites])
    have hpaused := hw .paused (by simp [instrWrites])
    refine hP.after_afterHold h (fun u hu hb => ?_) (accept_next ((execEnable.eq_1 s).symm.trans ht)).2.2
    exact hP.after_pass (fun _ => mem_writes_unmuteTasks) (hw _ List.mem_cons_self) (hw .shadow (by simp [instrWrites]))
      (by simpa [Task.writes] using hpaused) (hP.emit (hp u _ hu) _) hb
  | disable =>
    have hp := hw .pins (by simp [instrWrites])
    refine hP.after_afterHold h (fun u hu hb => ?_) (accept_next ((execDisable.eq_1 s).symm.trans ht)).2.2
    exact hP.after_pass (fun _ => mem_writes_muteTasks) (hw _ List.mem_cons_self) (hw .shadow (by simp [instrWrites]))
      (by simpa [Task.writes] using hp) hu hb
  | pauseToggle =>
    have hpaused := hw .paused (by simp [instrWrites])
    refine hP.after_pass (fun t ht w hw' => ?_) (hw _ List.mem_cons_self) (hw .shadow (by simp [instrWrites]))
      (by simpa [Task.writes] using hpaused) h (accept_next ((execPauseToggle.eq_1 s).symm.trans ht)).2.2
    split at ht
    · exact mem_writes_unmuteTasks ht hw'
    · exact mem_writes_muteTasks ht hw'
  | hardReset =>
    have hp := hw .pins List.mem_cons_self
    refine hP.after_afterHold h (fun u hu hb => ?_) (accept_next ((execHardReset.eq_1 s).symm.trans ht)).2.2
    cases hb
    exact hP.returning (hP.resetPulse hp hu) _
  | clearRegisters c =>
    have hs := hw .shadow List.mem_cons_self
    have hbody := (accept_next ((execClearRegisters.eq_1 c s).symm.trans ht)).2.2
    split at hbody
    · refine hP.after_tasks (fun t ht w hw' => ?_) h hbody
      rcases List.mem_append.mp ht with ht | ht
      · rw [mem_writes_clearTasks ht hw']
        exact hs
      · rw [List.mem_singleton.mp ht] at hw'
        cases hw'
    · cases hbody
  | initPins =>
    have hp := hw .pins List.mem_cons_self
    refine hP.after_afterHold h (fun u hu hb => ?_) (accept_next ((execInitPins.eq_1 s).symm.trans ht)).2.2
    cases hb
    exact hP.returning (hP.emit (hp u _ hu) _) _
  | setupBus =>
    have hbody := (accept_next ((execSetupBus.eq_1 s).symm.trans ht)).2.2
    cases hbuild : buildBus s with
    | next v =>
      rw [hbuild] at hbody
      cases hbody
      exact hP.returning (hP.after_buildBus (hw _ List.mem_cons_self) h hbuild) _
    | fault f => rw [hbuild] at hbody; cases hbody
    | refused r => rw [hbuild] at hbody; cases hbody
  | rebuildBus =>
    have hb : Part.build.Keeps P := hw _ List.mem_cons_self
    obtain ⟨v, hv, rfl⟩ := exec_rebuildBus_next ht
    exact hP.after_rebuild hb (hw .sync (by simp [instrWrites])) (hP.teardown hb h) hv
  | computeClockDivider rate =>
    simp only [exec, execComputeClockDivider] at ht
    split at ht <;> cases ht
    exact hP.returning h _
  | detectExternalClock =>
    have hbody := (accept_next ((execDetectExternalClock.eq_1 s).symm.trans ht)).2.2
    cases hbody
    exact hP.returning (hP.emit (hw .clock List.mem_cons_self s s.clockActivity h) _) _
  | route a =>
    simp only [exec, execRoute] at ht
    split at ht <;> cases ht
    exact hP.returning h _
  | phaseSync =>
    refine hP.after_afterHold h (fun u hu hb => ?_) (accept_next ((execPhaseSync.eq_1 s).symm.trans ht)).2.2
    cases hb
    exact hP.returning (hP.syncPhases (hw _ List.mem_cons_self) hu) _
  | mute =>
    exact hP.after_pass (fun _ => mem_writes_muteTasks) (hw _ List.mem_cons_self) (hw .shadow (by simp [instrWrites]))
      (by simp [Task.writes]) h (accept_next ht).2.2
  | unmute =>
    exact hP.after_pass (fun _ => mem_writes_unmuteTasks) (hw _ List.mem_cons_self) (hw .shadow (by simp [instrWrites]))
      (by simp [Task.writes]) h (accept_next ht).2.2

end

end Sys2Proof.Machine
end

section
/-! What no operation does: write another's part of the state (10_state R27 to R43), take an event back (20_memory R76), clear
`halted` (60_exceptions R273), or come before what was left in flight (20_memory R89 (3)). -/

namespace Sys2Proof.Machine

/-! ### A field that the plumbing leaves alone -/

/-- A view of the state that neither the agents nor the plumbing of operations change. -/
theorem plumbing_of_view {β : Type} (f : State → β) (x : β) (agents : ∀ s a, f (s.perform a) = f s)
    (phase : ∀ s p, f { s with phase := p } = f s := by intros; rfl)
    (todo : ∀ s l, f { s with todo := l } = f s := by intros; rfl)
    (result : ∀ s r, f { s with result := r } = f s := by intros; rfl)
    (event : ∀ s l, f { s with trace := s.trace ++ l } = f s := by intros; rfl)
    (link : ∀ s l, f { s with link := l } = f s := by intros; rfl)
    (words : ∀ s cw dw, f { s with cells := { s.cells with cw := cw, dw := dw } } = f s := by intros; rfl)
    (selects : ∀ s, f { s with pins := { s.pins with cs1 := true, cs2 := true } } = f s := by intros; rfl) :
    Plumbing fun s => f s = x where
  agents s a h _ := (agents s a).trans h
  phase s p h := (phase s p).trans h
  todo s l h := (todo s l).trans h
  result s r h := (result s r).trans h
  event s l h := (event s l).trans h
  link s l h := (link s l).trans h
  words s cw dw h := (words s cw dw).trans h
  selects s h := (selects s).trans h

/-- A view goes through an operation when the parts the operation writes are not in view. -/
theorem exec_view {β : Type} {f : State → β} (hP : ∀ x, Plumbing fun s => f s = x) {i : Instr}
    (hw : ∀ w ∈ instrWrites i, ∀ x, w.Keeps fun s => f s = x) {s t : State} (ht : exec i s = .next t) : f t = f s :=
  (hP (f s)).after_exec (fun w h => hw w h _) rfl ht

/-! ### The table of parts, read by part -/

theorem paused_mem_instrWrites {i : Instr} : Part.paused ∈ instrWrites i ↔ i = .enable ∨ i = .pauseToggle := by
  cases i <;> simp [instrWrites]

theorem clock_mem_instrWrites {i : Instr} : Part.clock ∈ instrWrites i ↔ i = .detectExternalClock := by
  cases i <;> simp [instrWrites]

theorem build_mem_instrWrites {i : Instr} : Part.build ∈ instrWrites i ↔ i = .setupBus ∨ i = .rebuildBus := by
  cases i <;> simp [instrWrites]

theorem sync_mem_instrWrites {i : Instr} : Part.sync ∈ instrWrites i ↔ i = .phaseSync ∨ i = .rebuildBus := by
  cases i <;> simp [instrWrites]

theorem pins_mem_instrWrites {i : Instr} :
    Part.pins ∈ instrWrites i ↔ i = .enable ∨ i = .disable ∨ i = .hardReset ∨ i = .initPins := by
  cases i <;> simp [instrWrites]

theorem delayWord_mem_instrWrites {i : Instr} : Part.delayWord ∈ instrWrites i ↔ ∃ a d n, i = .cycledDispatch a d n := by
  cases i <;> simp [instrWrites]

theorem volCache_mem_instrWrites {i : Instr} : Part.volCache ∈ instrWrites i ↔
    i = .mute ∨ i = .unmute ∨ i = .enable ∨ i = .disable ∨ i = .pauseToggle := by
  cases i <;> simp [instrWrites]

theorem shadow_mem_instrWrites {i : Instr} : Part.shadow ∈ instrWrites i ↔ Part.volCache ∈ instrWrites i ∨
    (∃ a d, i = .write a d) ∨ (∃ a d, i = .read a d) ∨ (∃ a d n, i = .cycledDispatch a d n) ∨
    ∃ c, i = .clearRegisters c := by
  cases i <;> simp [instrWrites]

/-! ### The views of O58 -/

section
variable {i : Instr} {s t : State} (ht : exec i s = .next t)
include ht

theorem exec_conf_plat_inbox : t.conf = s.conf ∧ t.plat = s.plat ∧ t.inbox = s.inbox := by
  have hview := exec_view (f := fun s => (s.conf, s.plat, s.inbox)) (fun x => plumbing_of_view _ x (by simp))
    (fun w _ x => by cases w <;> simp [Part.Keeps, State.samplesTaken]) ht
  simpa using hview

theorem exec_paused (hi : Part.paused ∉ instrWrites i) : t.paused = s.paused :=
  exec_view (f := State.paused) (fun x => plumbing_of_view _ x (by simp))
    (fun w hw x => by cases w <;> simp_all [Part.Keeps, State.samplesTaken]) ht

theorem exec_clkExternal (hi : Part.clock ∉ instrWrites i) : t.clkExternal = s.clkExternal :=
  exec_view (f := State.clkExternal) (fun x => plumbing_of_view _ x (by simp))
    (fun w hw x => by cases w <;> simp_all [Part.Keeps]) ht

theorem exec_bringUp (hi : Part.build ∉ instrWrites i) :
    t.divBus = s.divBus ∧ t.divClk = s.divClk ∧ t.busBuilt = s.busBuilt ∧ t.halted = s.halted := by
  have hview := exec_view (f := fun s => (s.divBus, s.divClk, s.busBuilt, s.halted))
    (fun x => plumbing_of_view _ x (by simp))
    (fun w hw x => by cases w <;> simp_all [Part.Keeps, State.samplesTaken]) ht
  simpa using hview

theorem exec_sequencers (hbuild : Part.build ∉ instrWrites i) (hsync : Part.sync ∉ instrWrites i) :
    t.seqs = s.seqs ∧ t.phaseAligned = s.phaseAligned := by
  have hview := exec_view (f := fun s => (s.seqs, s.phaseAligned)) (fun x => plumbing_of_view _ x (by simp))
    (fun w hw x => by cases w <;> simp_all [Part.Keeps, State.samplesTaken]) ht
  simpa using hview

theorem exec_res (hi : Part.pins ∉ instrWrites i) : t.pins.res = s.pins.res :=
  exec_view (f := fun s => s.pins.res)
    (fun x => plumbing_of_view _ x fun s a => by cases a <;> simp only [State.perform] <;> split <;> rfl)
    (fun w hw x => by cases w <;> simp_all [Part.Keeps, State.samplesTaken]) ht

theorem exec_dlw (hi : Part.delayWord ∉ instrWrites i) : t.cells.dlw = s.cells.dlw :=
  exec_view (f := fun s => s.cells.dlw)
    (fun x => plumbing_of_view _ x fun s a => by cases a <;> simp only [State.perform] <;> split <;> rfl)
    (fun w hw x => by cases w <;> simp_all [Part.Keeps, State.samplesTaken]) ht

theorem exec_volCache (hi : Part.volCache ∉ instrWrites i) : t.volCache = s.volCache :=
  exec_view (f := State.volCache) (fun x => plumbing_of_view _ x (by simp))
    (fun w hw x => by cases w <;> simp_all [Part.Keeps, State.samplesTaken]) ht

theorem exec_shadow (hi : Part.shadow ∉ instrWrites i) : t.shadow = s.shadow :=
  exec_view (f := State.shadow) (fun x => plumbing_of_view _ x (by simp))
    (fun w hw x => by cases w <;> simp_all [Part.Keeps, State.samplesTaken]) ht

end

/-- Settles O58: each view goes through the operations whose parts are not in view. -/
theorem operationsWriteOnlyTheirOwn : Obligations.OperationsWriteOnlyTheirOwn := by
  intro i s t ht
  refine ⟨exec_conf_plat_inbox ht, fun h1 h2 => exec_paused ht ?_, fun h => exec_clkExternal ht ?_, fun h1 h2 => ?_,
    fun h1 h2 h3 h4 => exec_res ht ?_, fun h => exec_dlw ht ?_, fun h1 h2 h3 h4 h5 => exec_volCache ht ?_,
    fun h1 h2 h3 h4 h5 h6 h7 h8 h9 => exec_shadow ht ?_⟩
  case refine_3 =>
    have hbuild : Part.build ∉ instrWrites i := by simp [build_mem_instrWrites, h1, h2]
    obtain ⟨hbus, hclk, hbuilt, hhalted⟩ := exec_bringUp ht hbuild
    exact ⟨hbus, hclk, hbuilt, hhalted, fun h3 => exec_sequencers ht hbuild (by simp [sync_mem_instrWrites, h2, h3])⟩
  · simp [paused_mem_instrWrites, h1, h2]
  · simp [clock_mem_instrWrites, h]
  · simp [pins_mem_instrWrites, h1, h2, h3, h4]
  · simp [delayWord_mem_instrWrites, h]
  · simp [volCache_mem_instrWrites, h1, h2, h3, h4, h5]
  · simp [shadow_mem_instrWrites, volCache_mem_instrWrites, h1, h2, h3, h4, h5, h6, h7, h8, h9]

/-! ### Whole steps -/

/-- A property of what operations and agents do to the state, and that no stimulus from outside ends, goes through every step. -/
theorem Plumbing.after_step {P : State → Prop} (hP : Plumbing P) (hparts : ∀ w : Part, w.Keeps P)
    (hinbox : ∀ s l, P s → P { s with inbox := l }) (hconf : ∀ s c, P s → P { s with conf := c })
    (henv : ∀ s e, P s → P { s with env := e }) {s t : State} (h : P s) (ht : step s = .next t) : P t := by
  have hcontinue : ∀ {u}, P u → continueBlocked u = .next t → P t := fun {u} hu hc => by
    unfold continueBlocked at hc
    split at hc
    · exact hP.after_tasks (fun _ _ w _ => hparts w) (hP.todo u [] hu) hc
    · cases hc
      exact hu
  unfold step at ht
  split at ht
  · exact hcontinue (hP.agents.tick h) ht
  · next r rest _ =>
    have hs := hinbox s rest h
    unfold issue at ht
    split at ht
    · exact hP.after_exec (fun w _ => hparts w) hs ht
    · cases (accept_next ht).2.2
      exact hP.returning hs _
    · cases (accept_next ht).2.2
  · unfold loadConfiguration at ht
    split at ht <;> cases ht
    exact hconf _ _ (hinbox s _ h)
  · cases ht
    exact henv _ _ (hinbox s _ h)
  · exact hcontinue (hP.agents.tryAgent (hinbox s _ h) _) ht

/-- Settles O56. -/
theorem haltedIsNeverLeft : Obligations.HaltedIsNeverLeft := fun _ _ h ht =>
  (plumbing_of_view State.halted true (by simp)).after_step
    (fun w => by cases w <;> simp_all [Part.Keeps, State.samplesTaken]) (fun _ _ h => h) (fun _ _ h => h) (fun _ _ h => h) h ht

/-! ### The trace -/

/-- An agent step only adds events (20_memory R80 to R86). -/
theorem State.trace_prefix_perform (s : State) (a : AgentStep) : s.trace <+: (s.perform a).trace := by
  cases a with
  | receive => simp only [State.perform]; split <;> exact List.prefix_rfl
  | _ =>
    simp only [State.perform]
    split
    · exact List.prefix_append _ _
    · exact List.prefix_rfl

theorem plumbing_trace (l : List Event) : Plumbing fun s => l <+: s.trace where
  agents s a h _ := h.trans (s.trace_prefix_perform a)
  phase _ _ h := h
  todo _ _ h := h
  result _ _ h := h
  event s l h := h.trans (List.prefix_append s.trace l)
  link _ _ h := h
  words _ _ _ h := h
  selects _ h := h

theorem Part.keeps_trace (l : List Event) (w : Part) : w.Keeps fun s => l <+: s.trace := by
  cases w <;> simp [Part.Keeps, State.samplesTaken]

theorem exec_trace_prefix {l : List Event} {i : Instr} {s t : State} (h : l <+: s.trace) (ht : exec i s = .next t) :
    l <+: t.trace :=
  (plumbing_trace l).after_exec (fun w _ => Part.keeps_trace l w) h ht

/-- Settles O57. -/
theorem traceOnlyGrows : Obligations.TraceOnlyGrows := fun s _ ht =>
  (plumbing_trace s.trace).after_step (Part.keeps_trace s.trace) (fun _ _ h => h) (fun _ _ h => h) (fun _ _ h => h)
    List.prefix_rfl ht

/-! ### Operations that begin with a hold do not see what is in flight -/

theorem State.settle_settle (s : State) : s.settle.settle = s.settle := State.settle_of_no_step s.settle_enables

theorem hold_settle (s : State) : hold s.settle = hold s := by rw [hold, hold, s.settle_settle]

theorem afterHold_settle (s : State) (body : State → Answer) : afterHold s.settle body = afterHold s body := by
  rw [afterHold, afterHold, hold_settle]

theorem launchWrite_settle (a d : Byte) (s : State) : launchWrite a d s.settle = launchWrite a d s := by
  rw [launchWrite, launchWrite, hold_settle]

/-- A launch begins with a hold. -/
theorem runTask_settle {t : Task} (h : t.launches = true) (s : State) : runTask t s.settle = runTask t s := by
  cases t with
  | launchWrite a d => exact launchWrite_settle a d s
  | launchPause => simp only [runTask, launchPause, hold_settle]
  | launchMute c =>
    by_cases hc : c < 4
    · simp only [runTask, launchMute_eq hc, State.shadowAt_settle, State.settle_volCache, ← State.settle_with_volCache,
        launchWrite_settle]
    · simp only [runTask, launchMute, hc, ↓reduceDIte]
  | launchUnmute c =>
    by_cases hc : c < 4
    · simp only [runTask, launchUnmute_eq hc, State.settle_volCache, ← State.settle_with_volCache, launchWrite_settle]
    · simp only [runTask, launchUnmute, hc, ↓reduceDIte]
  | _ => cases h

/-- A list of tasks with a hold before anything else. -/
def launchesFirst : List Task → Bool
  | [] => false
  | t :: _ => t.launches

theorem runTasks_settle {ts : List Task} (h : launchesFirst ts = true) (s : State) :
    runTasks ts s.settle = runTasks ts s := by
  cases ts with
  | nil => cases h
  | cons t ts => rw [runTasks, runTasks, runTask_settle h]

theorem launchesFirst_append_left {l m : List Task} (h : launchesFirst l = true) : launchesFirst (l ++ m) = true := by
  cases l with
  | nil => cases h
  | cons t l => exact h

theorem launchesFirst_append {l : List Task} (h : l = [] ∨ launchesFirst l = true) {m : List Task}
    (hm : launchesFirst m = true) : launchesFirst (l ++ m) = true := by
  cases l with
  | nil => exact hm
  | cons t l => exact h.resolve_left (by simp)

theorem muteTasks_launchesFirst (n : Nat) : muteTasks n = [] ∨ launchesFirst (muteTasks n) = true := by
  cases n with
  | zero => exact .inl rfl
  | succ n => exact .inr (by rw [muteTasks, List.range_succ_eq_map]; rfl)

theorem unmuteTasks_launchesFirst (n : Nat) : unmuteTasks n = [] ∨ launchesFirst (unmuteTasks n) = true := by
  cases n with
  | zero => exact .inl rfl
  | succ n => exact .inr (by rw [unmuteTasks, List.range_succ_eq_map]; rfl)

theorem clearTasks_launchesFirst (c : Nat) (l : List (BitVec 5)) :
    clearTasks c l = [] ∨ launchesFirst (clearTasks c l) = true := by
  cases l with
  | nil => exact .inl rfl
  | cons off l => exact .inr rfl

theorem accept_settle {need : BusNeed} {s : State} {body : State → Answer} (h : body s.settle = body s) :
    accept need s.settle body = accept need s body := by
  simp only [accept, callRefusal, State.settle_phase, State.settle_halted, State.settle_busBuilt, h]

/-- A pass with no turn in it only answers; any other begins with a hold. -/
theorem runTasks_pass_settle {s : State} {l : List Task} (hl : l = [] ∨ launchesFirst l = true) {r : Result} :
    (∀ t, runTasks (l ++ [.answer r]) s = .next t → t.trace = s.trace) ∨
      runTasks (l ++ [.answer r]) s.settle = runTasks (l ++ [.answer r]) s := by
  obtain rfl | hl := hl
  · exact .inl fun t ht => by cases ht; rfl
  · exact .inr (runTasks_settle (launchesFirst_append_left hl) s)

/-- An operation for which a bus need not be absent adds no event, or does not see what is in flight: it begins with a hold. -/
theorem exec_settle_or {i : Instr} (hneed : busNeed i ≠ .unbuilt) (hrebuild : i ≠ .rebuildBus) {s t : State}
    (ht : exec i s = .next t) : t.trace = s.trace ∨ exec i s.settle = .next t := by
  have hholds : ∀ {need body}, exec i s = accept need s body → exec i s.settle = accept need s.settle body →
      body s.settle = body s → exec i s.settle = .next t :=
    fun e e' h => e'.trans ((accept_settle h).trans (e.symm.trans ht))
  cases i with
  | rebuildBus => exact absurd rfl hrebuild
  | setupBus | detectExternalClock => exact absurd rfl hneed
  | route a =>
    simp only [exec, execRoute] at ht
    split at ht <;> cases ht
    exact .inl rfl
  | computeClockDivider rate =>
    simp only [exec, execComputeClockDivider] at ht
    split at ht <;> cases ht
    exact .inl rfl
  | write a d => exact .inr (hholds (execWrite.eq_1 a d s) (execWrite.eq_1 a d s.settle) (runTasks_settle rfl s))
  | pause a d => exact .inr (hholds (execPause.eq_1 a d s) (execPause.eq_1 a d s.settle) (runTasks_settle rfl s))
  | read a d => exact .inr (hholds (execRead.eq_1 a d s) (execRead.eq_1 a d s.settle) (afterHold_settle s _))
  | clearBus a d => exact .inr (hholds (execClearBus.eq_1 a d s) (execClearBus.eq_1 a d s.settle) (afterHold_settle s _))
  | enable => exact .inr (hholds (execEnable.eq_1 s) (execEnable.eq_1 s.settle) (afterHold_settle s _))
  | disable => exact .inr (hholds (execDisable.eq_1 s) (execDisable.eq_1 s.settle) (afterHold_settle s _))
  | hardReset => exact .inr (hholds (execHardReset.eq_1 s) (execHardReset.eq_1 s.settle) (afterHold_settle s _))
  | initPins => exact .inr (hholds (execInitPins.eq_1 s) (execInitPins.eq_1 s.settle) (afterHold_settle s _))
  | phaseSync => exact .inr (hholds (execPhaseSync.eq_1 s) (execPhaseSync.eq_1 s.settle) (afterHold_settle s _))
  | cycledDispatch a d n =>
    refine .inr (hholds (execCycledDispatch.eq_1 a d n s) (execCycledDispatch.eq_1 a d n s.settle) ?_)
    simp only [afterHold_settle]
  | pauseToggle =>
    refine .inr (hholds (execPauseToggle.eq_1 s) (execPauseToggle.eq_1 s.settle) ?_)
    simp only [State.settle_paused, State.settle_conf]
    refine runTasks_settle (launchesFirst_append ?_ rfl) s
    split
    · exact unmuteTasks_launchesFirst _
    · exact muteTasks_launchesFirst _
  | mute =>
    refine (runTasks_pass_settle (muteTasks_launchesFirst s.conf.numChips)).imp (fun h => h t (accept_next ht).2.2) fun h => ?_
    refine hholds (execMute.eq_1 s) (execMute.eq_1 s.settle) ?_
    simpa only [State.settle_conf] using h
  | unmute =>
    refine (runTasks_pass_settle (unmuteTasks_launchesFirst s.conf.numChips)).imp (fun h => h t (accept_next ht).2.2) fun h => ?_
    refine hholds (execUnmute.eq_1 s) (execUnmute.eq_1 s.settle) ?_
    simpa only [State.settle_conf] using h
  | clearRegisters c =>
    have hbody := (accept_next ((execClearRegisters.eq_1 c s).symm.trans ht)).2.2
    split at hbody
    · next hc =>
      refine (runTasks_pass_settle (clearTasks_launchesFirst c.toNat (clearableRegisters s.plat))).imp (fun h => h t hbody) fun h => ?_
      refine hholds (execClearRegisters.eq_1 c s) (execClearRegisters.eq_1 c s.settle) ?_
      simpa only [State.settle_plat, hc, ↓reduceIte] using h
    · cases hbody

/-- An operation for which the bus must be absent finds nothing in flight. -/
theorem settle_of_busNeed_unbuilt {i : Instr} {s t : State} (hi : ControllerInv s) (hneed : busNeed i = .unbuilt)
    (ht : exec i s = .next t) : s.settle = s := by
  obtain ⟨body, e⟩ := exec_eq_accept (i := i) (by rintro a rfl; cases hneed) (by rintro r rfl; cases hneed) s
  rw [hneed] at e
  obtain ⟨r, hr⟩ | ⟨hmet, -⟩ := accept_cases .unbuilt s body
  · rw [e, hr] at ht
    cases ht
  · obtain ⟨hidle, -, hbuilt⟩ := hmet
    exact State.settle_of_drained ((hi.toIdle hidle).unbuilt hbuilt).1

/-- A rebuild leaves nothing in flight, built or not (46_resync R256). -/
theorem rebuilt_drained {s v : State} (hv : buildBus s.teardown = .next v) :
    (v.afterRebuild.returning .none).link.drained = true := by
  have hlink : v.link.drained = true := by
    obtain ⟨-, e⟩ | ⟨divBus, divClk, -, ⟨-, e⟩ | ⟨-, -, e⟩ | ⟨-, -, e⟩⟩ := buildBus_cases s.teardown <;>
      rw [e] at hv <;> cases hv <;> rfl
  unfold State.afterRebuild State.syncPhases
  split
  · exact hlink
  · split <;> exact hlink

/-- Settles O59: an operation adds no event, or runs as it would from the state in which what was in flight has run; without a
bus nothing is in flight. -/
theorem earlierWorkComesFirst : Obligations.EarlierWorkComesFirst := by
  intro i s t hi ht
  refine ⟨fun hrebuild => ?_, ?_⟩
  · by_cases hneed : busNeed i = .unbuilt
    · exact .inr (by rw [settle_of_busNeed_unbuilt hi hneed ht]; exact exec_trace_prefix List.prefix_rfl ht)
    · exact (exec_settle_or hneed hrebuild ht).imp_right fun h => exec_trace_prefix List.prefix_rfl h
  · rintro rfl
    obtain ⟨v, hv, rfl⟩ := exec_rebuildBus_next ht
    have hP := plumbing_trace (s.trace ++ [.busTornDown])
    exact ⟨hP.after_rebuild (Part.keeps_trace _ _) (Part.keeps_trace _ _) List.prefix_rfl hv, rebuilt_drained hv⟩

end Sys2Proof.Machine
end
